-- ==== Sys2Proof/Word.lean ====
section
/-! DEFINITION. The word types of the CP slot engine: the bit vectors that spec/10_state.md (R45, R48) and
spec/30_encoding.md (R98) give a width. Enumerations and counts of things are not here: they are types of their own. -/

namespace Sys2Proof

/-- One byte of a reference image (20_memory R63). -/
abbrev Byte := BitVec 8

/-- A chip size in bytes, unsigned, SIZE_W = 32 bits (00_scope R6). -/
abbrev ChipSize := BitVec 32

/-- A stimulus word (30_encoding R98); a shorter code of another format stands zero-extended in one. -/
abbrev StimWord := BitVec 40

/-- A lamp pattern, bit i for slot i, 1 = lit (20_memory R62). -/
abbrev Pattern := BitVec 16

/-- A slot number 0 to 15 (20_memory R60). -/
abbrev Slot := Fin 16

end Sys2Proof
end

