-- ==== Sys2Proof/Config.lean ====
section
/-! DEFINITION. What is fixed for one machine: the parameters of 00_scope R6 that the spec decides, the parameters it
leaves OPEN, and the free values. The OPEN ones and the free values are opaque constants: no proof can see a number. -/

namespace Sys2Proof.Config

/-- Ticks between toggles in `slowBlink` (00_scope R6, 42 R135). -/
def nSlow : Nat := 25

/-- Ticks between toggles in `fastBlink` (00_scope R6, 42 R136). -/
def mFast : Nat := 5

/-- Consecutive equal samples that confirm a press or a release (00_scope R6, 43 R151). -/
def debounceSamples : Nat := 3

/-- Ticks of startup animation (00_scope R6, 42 R140). -/
def bootLen : Nat := 16

/-- The raw value behind `tSettle`. DESIGN CHOICE (log entry 2): opaque, safe. -/
opaque tSettleRaw : BitVec 16

/-- T_SETTLE of the machine that `State.reset` describes: some value from 1 to 65535 (00_scope R6, R7). -/
def tSettle : BitVec 16 := if tSettleRaw = 0 then 1 else tSettleRaw

/-- HASH, the content digest of 47 R260: an uninterpreted total function; the digest is held as a number.
DESIGN CHOICE (log entry 4): opaque, safe. -/
opaque hash : List Byte → Nat

/-- The image of an OK READ answer that brings no image (log entry 5): a free value, a fresh one for every count.
DESIGN CHOICE: the spec states no value there; safe. -/
opaque freeImage : Nat → List Byte

/-- Whether the test `slot[n].sizeMatch == match` holds for a number `n` above 15, which names no record (log entry 12): a free
value. DESIGN CHOICE: the spec states no value there; safe. -/
opaque missingMatches : Nat → Bool

/-- What `cur` holds after `cur <- n` with an `n` that does not fit 5 bits (log entry 12): a free value. DESIGN CHOICE: the spec states
no value there; safe. -/
opaque curBeyond : Nat → BitVec 5

end Sys2Proof.Config
end

