-- ==== Sys2Proof/Syntax.lean ====
section
/-! DEFINITION. The operations of the CP slot engine as syntax: the enumerations the codes stand for, a stimulus (one
instruction as it is delivered), and `Instr` with one constructor per row of spec/opcode_table.json. -/

namespace Sys2Proof

/-- Error code, shared by `run_err`, `fatal_code` and `fa_status` (30_encoding R88); `ok` is code 000. -/
inductive ErrCode where
  | ok | noChipDetected | sizeMismatch | readFailure | writeFailure | verifyFailure | resourceBusy | addressOutOfRange
deriving DecidableEq, Repr

/-- The Controller's phase (30_encoding R86). -/
inductive Phase where
  | boot | idle | start | select | settle | detect | read | archive | write | verify | next | fatal
deriving DecidableEq, Repr

/-- Lamp mode (30_encoding R84). -/
inductive LedMode where
  | off | on | slowBlink | fastBlink | dataActivity
deriving DecidableEq, Repr

/-- Debounce state (30_encoding R91). -/
inductive DbState where
  | idle | pressedPending | pressedConfirmed | released
deriving DecidableEq, Repr

/-- What stands on `fa_cmd` (30_encoding R89); `noCmd` is code 000, the value of the pins while `fa_req` is 0. -/
inductive FaCmd where
  | noCmd | detect | read | write | verify
deriving DecidableEq, Repr

/-- The two buttons (00_scope R13): `C` = CHECK = index 0, `W` = WRITE = index 1. -/
inductive Button where
  | check | write
deriving DecidableEq, Repr

/-- An adapter answer, the arguments of `RSP` (00_scope R9, 30_encoding R90). All four are free inputs (47 R257).
`image` is the byte sequence on the image channel, absent where the answer brings none. -/
structure Rsp where
  status : ErrCode
  flag : Bool
  size : ChipSize
  image : Option (List Byte)
deriving DecidableEq, Repr

/-- The event a phase of the Controller acts on (44 R171, R172). -/
inductive CtlEvent where
  | ctl
  | rsp (r : Rsp)
deriving DecidableEq, Repr

/-- Where a code stands (30_encoding R94): the stimulus word, one of the engine's selectors, an index port or a strobe.
The short codes of different ports overlap, so a code has a meaning only together with its port (log entry 10). -/
inductive Port where
  | stimulus | phase | ledMode | debounce | faCmd | muxAddr | stIdx | archReq | srLatch
deriving DecidableEq, Repr

/-- One instruction as it is delivered: the code on its port, the operand that travels beside the code (log entry 9)
and, beside an `RSP`, the bytes of the image (30_encoding R98). -/
structure Stimulus where
  port : Port
  code : StimWord
  arg : StimWord := 0
  image : Option (List Byte) := none
deriving DecidableEq, Repr

/-- Why a stimulus is ill-formed (30_encoding R95, 93_implementation_defined section 1: `refuse`). -/
inductive DecodeError where
  /-- a stimulus word of kind 4 to 14 -/
  | reservedKind
  /-- a non-zero bit in a field that the word's table gives as 0 -/
  | nonZeroField
  /-- `phase` code 1100 to 1111 -/
  | reservedPhase
  /-- `ledMode` code 101 to 111 -/
  | reservedLedMode
  /-- `fa_cmd` code 000 or 101 to 111 where a command is asked for -/
  | reservedCommand
  /-- a strobe that is 0 -/
  | noStrobe
  /-- an operand beside the code that names no slot, button, pattern or controller event -/
  | badOperand
  /-- image bytes beside anything but an `RSP` -/
  | strayImage
deriving DecidableEq, Repr

/-- The instructions: one constructor per row of spec/opcode_table.json, in the table's order. -/
inductive Instr where
  /-- `RESET(dip, res_ok)`, R310 -/
  | reset (dip : BitVec 32) (resOk : Bool)
  /-- `CTL`, R171 -/
  | ctl
  /-- `TICK`, R130 -/
  | tick
  /-- `SAMPLE(rC, rW)`, R150 -/
  | sample (rC rW : Bool)
  /-- `RSP(status, flag, size, image)`, R172 -/
  | rsp (r : Rsp)
  /-- `PH.BOOT`, R175 -/
  | phBoot (e : CtlEvent)
  /-- `PH.IDLE`, R175 -/
  | phIdle (e : CtlEvent)
  /-- `PH.START`, R176 -/
  | phStart (e : CtlEvent)
  /-- `PH.SELECT`, R178 -/
  | phSelect (e : CtlEvent)
  /-- `PH.SETTLE`, R179 -/
  | phSettle (e : CtlEvent)
  /-- `PH.DETECT`, R203, R204, R222 -/
  | phDetect (e : CtlEvent)
  /-- `PH.READ`, R224 -/
  | phRead (e : CtlEvent)
  /-- `PH.ARCHIVE`, R225 -/
  | phArchive (e : CtlEvent)
  /-- `PH.WRITE`, R228 -/
  | phWrite (e : CtlEvent)
  /-- `PH.VERIFY`, R230 -/
  | phVerify (e : CtlEvent)
  /-- `PH.NEXT`, R181 -/
  | phNext (e : CtlEvent)
  /-- `PH.FATAL`, R280 -/
  | phFatal (e : CtlEvent)
  /-- `BL.OFF` on slot i, R133 -/
  | blOff (i : Slot)
  /-- `BL.ON` on slot i, R134 -/
  | blOn (i : Slot)
  /-- `BL.SLOW` on slot i, R135 -/
  | blSlow (i : Slot)
  /-- `BL.FAST` on slot i, R136 -/
  | blFast (i : Slot)
  /-- `BL.DATA` on slot i, R137 -/
  | blData (i : Slot)
  /-- `DB.IDLE` on button b with raw level r, R152 -/
  | dbIdle (b : Button) (r : Bool)
  /-- `DB.PEND` on button b with raw level r, R153 -/
  | dbPend (b : Button) (r : Bool)
  /-- `DB.CONF` on button b with raw level r, R154 -/
  | dbConf (b : Button) (r : Bool)
  /-- `DB.REL` on button b with raw level r, R155 -/
  | dbRel (b : Button) (r : Bool)
  /-- `DETECT`, R201 -/
  | detect
  /-- `READ`, R223 -/
  | read
  /-- `WRITE`, R227 -/
  | write
  /-- `VERIFY`, R227 -/
  | verify
  /-- `SELECT s`, R110; `s` has 5 bits because the range check is on the 5-bit value (30_encoding R100) -/
  | select (s : BitVec 5)
  /-- `STAT i`, R264 -/
  | stat (i : BitVec 4)
  /-- `STORE`, R259 -/
  | store
  /-- `RENDER p`, R120 -/
  | render (p : Pattern)
deriving DecidableEq, Repr

/-- The five events of 00_scope R9: all that changes the state of the engine. -/
def Instr.isEvent : Instr → Bool
  | .reset _ _ | .ctl | .tick | .sample _ _ | .rsp _ => true
  | _ => false

end Sys2Proof
end

