-- ==== Sys2Proof/WellFormed.lean ====
section
/-! DEFINITION. Which instructions the spec's encodings can express: the checks that the types of `Instr` do not make. -/

namespace Sys2Proof

/-- Well-formed on a machine with `dipW` DIP-switch lines: a RESET's `dip` has no bit beyond DIP_W (00_scope R9, 30_encoding
R98) and a SELECT's index fits the four address lines (30_encoding R93). Everything else the types of `Instr` enforce. -/
def Instr.wellFormedFor (dipW : Nat) : Instr → Bool
  | .reset dip _ => decide (dip.toNat < 2 ^ dipW)
  | .select s => decide (s.toNat < 16)
  | _ => true

/-- Well-formed with DIP_W = 32, the widest the stimulus word carries (30_encoding R98; log entry 3). -/
def Instr.wellFormed (i : Instr) : Bool := i.wellFormedFor 32

end Sys2Proof
end

