-- ==== Sys2Proof/Decode.lean ====
section
/-! DEFINITION. The codes of spec/30_encoding.md, the decoder (total on any stimulus, rejecting by name) and after it the
encoder, both written from the tables R81 to R98. -/

namespace Sys2Proof

/-! ### Codes of the enumerations -/

/-- 30_encoding R88. -/
def ErrCode.code : ErrCode → BitVec 3
  | .ok => 0b000 | .noChipDetected => 0b001 | .sizeMismatch => 0b010 | .readFailure => 0b011
  | .writeFailure => 0b100 | .verifyFailure => 0b101 | .resourceBusy => 0b110 | .addressOutOfRange => 0b111

/-- 30_encoding R88: all eight codes are named, none is reserved. -/
def ErrCode.ofCode (c : BitVec 3) : ErrCode :=
  match c.toNat with
  | 0 => .ok | 1 => .noChipDetected | 2 => .sizeMismatch | 3 => .readFailure
  | 4 => .writeFailure | 5 => .verifyFailure | 6 => .resourceBusy | _ => .addressOutOfRange

/-- 30_encoding R86. -/
def Phase.code : Phase → BitVec 4
  | .boot => 0b0000 | .idle => 0b0001 | .start => 0b0010 | .select => 0b0011 | .settle => 0b0100 | .detect => 0b0101
  | .read => 0b0110 | .archive => 0b0111 | .write => 0b1000 | .verify => 0b1001 | .next => 0b1010 | .fatal => 0b1011

/-- 30_encoding R86; codes 1100 to 1111 are reserved (R95). -/
def Phase.ofCode (c : BitVec 4) : Option Phase :=
  match c.toNat with
  | 0 => some .boot | 1 => some .idle | 2 => some .start | 3 => some .select | 4 => some .settle | 5 => some .detect
  | 6 => some .read | 7 => some .archive | 8 => some .write | 9 => some .verify | 10 => some .next | 11 => some .fatal
  | _ => none

/-- 30_encoding R84. -/
def LedMode.code : LedMode → BitVec 3
  | .off => 0b000 | .on => 0b001 | .slowBlink => 0b010 | .fastBlink => 0b011 | .dataActivity => 0b100

/-- 30_encoding R84; codes 101 to 111 are reserved (R95). -/
def LedMode.ofCode (c : BitVec 3) : Option LedMode :=
  match c.toNat with
  | 0 => some .off | 1 => some .on | 2 => some .slowBlink | 3 => some .fastBlink | 4 => some .dataActivity
  | _ => none

/-- 30_encoding R91. -/
def DbState.code : DbState → BitVec 2
  | .idle => 0b00 | .pressedPending => 0b01 | .pressedConfirmed => 0b10 | .released => 0b11

/-- 30_encoding R91: all four codes are used. -/
def DbState.ofCode (c : BitVec 2) : DbState :=
  match c.toNat with
  | 0 => .idle | 1 => .pressedPending | 2 => .pressedConfirmed | _ => .released

/-- 30_encoding R89. -/
def FaCmd.code : FaCmd → BitVec 3
  | .noCmd => 0b000 | .detect => 0b001 | .read => 0b010 | .write => 0b011 | .verify => 0b100

/-- 30_encoding R89; codes 101 to 111 are reserved (R95). -/
def FaCmd.ofCode (c : BitVec 3) : Option FaCmd :=
  match c.toNat with
  | 0 => some .noCmd | 1 => some .detect | 2 => some .read | 3 => some .write | 4 => some .verify
  | _ => none

/-- 00_scope R13: CHECK is index 0, WRITE is index 1. -/
def Button.ofIndex (n : Nat) : Option Button :=
  match n with
  | 0 => some .check | 1 => some .write
  | _ => none

/-- 00_scope R13. -/
def Button.index : Button → StimWord
  | .check => 0 | .write => 1

/-! ### Decoding -/

/-- Bits 39 to `width` of a code are zero: a code shorter than the word stands zero-extended in it. -/
def highBitsZero (width : Nat) (w : StimWord) : Bool := decide (w.toNat < 2 ^ width)

/-- The adapter answer that a stimulus word of kind 0011 carries (30_encoding R98): `aux[2:0]` status, `aux[3]` flag, `val` size. -/
def rspOfWord (w : StimWord) (image : Option (List Byte)) : Rsp :=
  { status := ErrCode.ofCode (w.extractLsb' 32 3), flag := w.getLsbD 35, size := w.extractLsb' 0 32, image := image }

/-- A word with no field to read and nothing beside it. -/
def decodePlain (fieldsZero : Bool) (image : Option (List Byte)) (i : Instr) : Except DecodeError Instr :=
  if image ≠ none then .error .strayImage
  else if fieldsZero then .ok i
  else .error .nonZeroField

/-- The stimulus word of 30_encoding R98: `kind[39:36]`, `aux[35:32]`, `val[31:0]`; kinds 4 to 14 are reserved (R95). -/
def decodeWord (w : StimWord) (image : Option (List Byte)) : Except DecodeError Instr :=
  match (w.extractLsb' 36 4).toNat with
  | 0 => decodePlain (decide (w.extractLsb' 0 36 = 0)) image .ctl
  | 1 => decodePlain (decide (w.extractLsb' 0 36 = 0)) image .tick
  | 2 => decodePlain (decide (w.extractLsb' 34 2 = 0 ∧ w.extractLsb' 0 32 = 0)) image (.sample (w.getLsbD 32) (w.getLsbD 33))
  | 3 => .ok (.rsp (rspOfWord w image))
  | 15 => decodePlain (decide (w.extractLsb' 33 3 = 0)) image (.reset (w.extractLsb' 0 32) (w.getLsbD 32))
  | _ => .error .reservedKind

/-- The controller event beside a phase code: a stimulus word that is a `CTL` or an `RSP` (log entry 9). -/
def decodeCtlEvent (w : StimWord) (image : Option (List Byte)) : Except DecodeError CtlEvent :=
  match (w.extractLsb' 36 4).toNat with
  | 0 => if image ≠ none then .error .strayImage else if w = 0 then .ok .ctl else .error .nonZeroField
  | 3 => .ok (.rsp (rspOfWord w image))
  | _ => .error .badOperand

/-- The format P operation of a phase (30_encoding R86, R94). -/
def phaseInstr (e : CtlEvent) : Phase → Instr
  | .boot => .phBoot e | .idle => .phIdle e | .start => .phStart e | .select => .phSelect e | .settle => .phSettle e
  | .detect => .phDetect e | .read => .phRead e | .archive => .phArchive e | .write => .phWrite e
  | .verify => .phVerify e | .next => .phNext e | .fatal => .phFatal e

/-- The format M operation of a lamp mode on one slot (30_encoding R84, R94). -/
def ledModeInstr (i : Slot) : LedMode → Instr
  | .off => .blOff i | .on => .blOn i | .slowBlink => .blSlow i | .fastBlink => .blFast i | .dataActivity => .blData i

/-- The format B operation of a debounce state on one button (30_encoding R91, R94). -/
def debounceInstr (b : Button) (r : Bool) : DbState → Instr
  | .idle => .dbIdle b r | .pressedPending => .dbPend b r | .pressedConfirmed => .dbConf b r | .released => .dbRel b r

def decodePhase (w arg : StimWord) (image : Option (List Byte)) : Except DecodeError Instr :=
  if highBitsZero 4 w then
    match Phase.ofCode (w.setWidth 4) with
    | none => .error .reservedPhase
    | some p =>
      match decodeCtlEvent arg image with
      | .error e => .error e
      | .ok e => .ok (phaseInstr e p)
  else .error .nonZeroField

def decodeLedMode (w arg : StimWord) : Except DecodeError Instr :=
  if highBitsZero 3 w then
    match LedMode.ofCode (w.setWidth 3) with
    | none => .error .reservedLedMode
    | some m => if h : arg.toNat < 16 then .ok (ledModeInstr ⟨arg.toNat, h⟩ m) else .error .badOperand
  else .error .nonZeroField

def decodeDebounce (w arg : StimWord) : Except DecodeError Instr :=
  if highBitsZero 3 w then
    match Button.ofIndex arg.toNat with
    | none => .error .badOperand
    | some b => .ok (debounceInstr b (w.getLsbD 0) (DbState.ofCode (w.extractLsb' 1 2)))
  else .error .nonZeroField

def decodeFaCmd (w : StimWord) : Except DecodeError Instr :=
  if highBitsZero 3 w then
    match FaCmd.ofCode (w.setWidth 3) with
    | some .detect => .ok .detect
    | some .read => .ok .read
    | some .write => .ok .write
    | some .verify => .ok .verify
    | _ => .error .reservedCommand
  else .error .nonZeroField

/-- The decoder: the instruction a stimulus stands for, or the name of what is wrong with it. Total. -/
def decode (u : Stimulus) : Except DecodeError Instr :=
  match u.port with
  | .stimulus => if u.arg = 0 then decodeWord u.code u.image else .error .badOperand
  | .phase => decodePhase u.code u.arg u.image
  | .ledMode => if u.image = none then decodeLedMode u.code u.arg else .error .strayImage
  | .debounce => if u.image = none then decodeDebounce u.code u.arg else .error .strayImage
  | .faCmd =>
    if u.image ≠ none then .error .strayImage
    else if u.arg = 0 then decodeFaCmd u.code
    else .error .badOperand
  | .muxAddr =>
    if u.arg ≠ 0 then .error .badOperand
    else decodePlain (highBitsZero 4 u.code) u.image (.select (u.code.setWidth 5))
  | .stIdx =>
    if u.arg ≠ 0 then .error .badOperand
    else decodePlain (highBitsZero 4 u.code) u.image (.stat (u.code.setWidth 4))
  | .archReq =>
    if u.arg ≠ 0 then .error .badOperand
    else if u.code = 0 then .error .noStrobe
    else decodePlain (decide (u.code = 1)) u.image .store
  | .srLatch =>
    if highBitsZero 16 u.arg = false then .error .badOperand
    else if u.code = 0 then .error .noStrobe
    else decodePlain (decide (u.code = 1)) u.image (.render (u.arg.setWidth 16))

/-! ### Encoding -/

/-- `{kind[3:0], aux[3:0], val[31:0]}` (30_encoding R98). -/
def stimWord (kind aux : BitVec 4) (val : BitVec 32) : StimWord := kind ++ aux ++ val

def rspWord (r : Rsp) : StimWord := stimWord 0b0011 (BitVec.ofBool r.flag ++ r.status.code) r.size

def ctlEventWord : CtlEvent → StimWord
  | .ctl => stimWord 0 0 0
  | .rsp r => rspWord r

def ctlEventImage : CtlEvent → Option (List Byte)
  | .ctl => none
  | .rsp r => r.image

def encodePhase (p : Phase) (e : CtlEvent) : Stimulus :=
  { port := .phase, code := p.code.setWidth 40, arg := ctlEventWord e, image := ctlEventImage e }

def encodeLedMode (m : LedMode) (i : Slot) : Stimulus :=
  { port := .ledMode, code := m.code.setWidth 40, arg := BitVec.ofNat 40 i.val }

def encodeDebounce (d : DbState) (b : Button) (r : Bool) : Stimulus :=
  { port := .debounce, code := (d.code ++ BitVec.ofBool r).setWidth 40, arg := b.index }

def encodeFaCmd (c : FaCmd) : Stimulus := { port := .faCmd, code := c.code.setWidth 40 }

/-- The stimulus of an instruction (30_encoding R84 to R98). For one that is not well-formed it is some stimulus, not its own. -/
def encode : Instr → Stimulus
  | .reset dip ok => { port := .stimulus, code := stimWord 0b1111 (0#3 ++ BitVec.ofBool ok) dip }
  | .ctl => { port := .stimulus, code := stimWord 0b0000 0 0 }
  | .tick => { port := .stimulus, code := stimWord 0b0001 0 0 }
  | .sample rC rW => { port := .stimulus, code := stimWord 0b0010 (0#2 ++ BitVec.ofBool rW ++ BitVec.ofBool rC) 0 }
  | .rsp r => { port := .stimulus, code := rspWord r, image := r.image }
  | .phBoot e => encodePhase .boot e
  | .phIdle e => encodePhase .idle e
  | .phStart e => encodePhase .start e
  | .phSelect e => encodePhase .select e
  | .phSettle e => encodePhase .settle e
  | .phDetect e => encodePhase .detect e
  | .phRead e => encodePhase .read e
  | .phArchive e => encodePhase .archive e
  | .phWrite e => encodePhase .write e
  | .phVerify e => encodePhase .verify e
  | .phNext e => encodePhase .next e
  | .phFatal e => encodePhase .fatal e
  | .blOff i => encodeLedMode .off i
  | .blOn i => encodeLedMode .on i
  | .blSlow i => encodeLedMode .slowBlink i
  | .blFast i => encodeLedMode .fastBlink i
  | .blData i => encodeLedMode .dataActivity i
  | .dbIdle b r => encodeDebounce .idle b r
  | .dbPend b r => encodeDebounce .pressedPending b r
  | .dbConf b r => encodeDebounce .pressedConfirmed b r
  | .dbRel b r => encodeDebounce .released b r
  | .detect => encodeFaCmd .detect
  | .read => encodeFaCmd .read
  | .write => encodeFaCmd .write
  | .verify => encodeFaCmd .verify
  | .select s => { port := .muxAddr, code := s.setWidth 40 }
  | .stat i => { port := .stIdx, code := i.setWidth 40 }
  | .store => { port := .archReq, code := 1 }
  | .render p => { port := .srLatch, code := 1, arg := p.setWidth 40 }

/-! ### The words of the operation table -/

/-- The port a table word of `nbits` bits is taken to stand on. The table gives formats P, M, B, F, A and X overlapping short
codes and no bits that tell them apart, so a word alone fixes its row only for the five events (40 bits); a shorter one is read
as a phase code, or by its exact width as a lamp mode (3) or a strobe (1). DESIGN CHOICE, log entry 10. -/
def tablePort (nbits : Nat) : Port :=
  if nbits = 3 then .ledMode
  else if nbits = 1 then .archReq
  else if nbits ≤ 8 then .phase
  else .stimulus

/-- A table word as a stimulus; every bit beside the word is 0. -/
def tableStimulus (nbits w : Nat) : Stimulus := { port := tablePort nbits, code := BitVec.ofNat 40 w }

/-- The instruction the decoder reads from a word of spec/opcode_table.json, numbered as the table numbers its bits. -/
def decodeTableWord (nbits w : Nat) : Option Instr :=
  if w < 2 ^ 40 then
    match decode (tableStimulus nbits w) with
    | .ok i => some i
    | .error _ => none
  else none

end Sys2Proof
end

