-- ==== Sys2Proof/Machine/State.lean ====
section
/-! DEFINITION. The state of the CP slot engine: every register of 10_state R45 grouped by the agent that owns it (R46), the pins
of R48 that an event drives, and the model's own fields. Plain data. -/

namespace Sys2Proof.Machine

/-- `slot[i].presence` (10_state R22). -/
inductive Presence where
  | absent | present
deriving DecidableEq, Repr

/-- `slot[i].sizeMatch` (10_state R23). -/
inductive SizeMatch where
  | unknown | matching | mismatch
deriving DecidableEq, Repr

/-- `slot[i].lastOpResult` (10_state R24). -/
inductive OpResult where
  | none | success | verifyFailed | readFailed | writeFailed
deriving DecidableEq, Repr

/-- `wf`, the workflow in progress (10_state R28). -/
inductive Workflow where
  | none | check | write
deriving DecidableEq, Repr

/-- One SlotState record (10_state R21). `SizeMatch.matching` is the spec's value `match`, a word Lean keeps for itself. -/
structure SlotState where
  presence : Presence
  sizeMatch : SizeMatch
  lastOpResult : OpResult
  ledMode : LedMode
deriving DecidableEq, Repr

/-- A ReferenceImage (10_state R34). -/
structure RefImage where
  bytes : List Byte
  len : Nat
  hash : Nat
deriving DecidableEq, Repr

/-- The registers the controller agent owns (10_state R21 to R36, R38, R45). -/
structure CtlRegs where
  slot : Vector SlotState 16
  phase : Phase
  wf : Workflow
  cur : BitVec 5
  settleCtr : BitVec 16
  gerr : Bool
  act : Bool
  refValid : Bool
  refSize : ChipSize
  refImage : Option RefImage
  runErr : ErrCode
  fatalCode : ErrCode
  muxAddr : BitVec 4
deriving DecidableEq, Repr

/-- One slot's phase counter: `cnt[i]` and the lamp bit `lvl[i]` (10_state R39). -/
structure LampPhase where
  cnt : BitVec 8
  lvl : Bool
deriving DecidableEq, Repr

/-- The registers the scheduler agent owns (10_state R39 to R41, R45). -/
structure SchedRegs where
  lamp : Vector LampPhase 16
  bootCtr : BitVec 5
  bootDone : Bool
  ledVisible : Pattern
deriving DecidableEq, Repr

/-- One button's debouncer: `db_state[b]` and `db_cnt[b]` (10_state R42). -/
structure Debouncer where
  dbState : DbState
  dbCnt : BitVec 4
deriving DecidableEq, Repr

/-- The registers the sampler agent owns (10_state R42, R45). -/
structure SampRegs where
  check : Debouncer
  write : Debouncer
deriving DecidableEq, Repr

/-- The output pins that are pulses of one event (10_state R43, R48), as the last event left them (log entry 14). -/
structure OutPins where
  /-- `fa_req` (47 R250) -/
  faReq : Bool
  /-- `fa_cmd` (30_encoding R89) -/
  faCmd : FaCmd
  /-- the image channel towards the FlashAdapter (47 R250) -/
  faImage : Option RefImage
  /-- `arch_req` (47 R259) -/
  archReq : Bool
  /-- the image channel towards the Archiver (47 R259) -/
  archImage : Option RefImage
  /-- `evt[0]` (30_encoding R92) -/
  evtCheck : Bool
  /-- `evt[1]` (30_encoding R92) -/
  evtWrite : Bool
  /-- `sr_latch` (41 R120) -/
  latch : Bool
deriving DecidableEq, Repr

/-- The state of the machine. -/
structure State where
  ctl : CtlRegs
  sched : SchedRegs
  samp : SampRegs
  /-- `speed_cfg`, zero-extended to 32 bits (10_state R37; log entry 3) -/
  speedCfg : BitVec 32
  out : OutPins
  /-- the level of the input `st_idx` (10_state R27; log entry 15) -/
  stIdx : BitVec 4
  /-- MODEL's own: the host's pending stimuli, the next one first (log entry 6) -/
  stim : List Stimulus
  /-- MODEL's own: the parameter T_SETTLE of this machine (00_scope R6; log entry 2) -/
  tSettle : BitVec 16
  /-- MODEL's own: how many free values have been used (log entry 5) -/
  freeCtr : Nat
deriving DecidableEq, Repr

/-- Why the machine stops with a fault: there is no reason, for every event is defined in every state (60 R271). The errors of the
spec are effects, and the states they lead to are next states (60 R275). No constructor, so nothing raises one. Safe. -/
inductive Fault where
deriving DecidableEq, Repr

/-- Why the model has no meaning for what stands next. -/
inductive Refusal where
  /-- Raised by an arm of `exec` whose instruction has no meaning yet; no arm does. Safe. -/
  | notModelled (mnemonic : String)
  /-- Raised by `step` when the next stimulus is ill-formed: 30_encoding R95 and 93_implementation_defined section 1 say `refuse`. Safe. -/
  | illFormed (e : DecodeError)
deriving DecidableEq, Repr

/-! ### Reset values (10_state R45) -/

def SlotState.reset : SlotState := { presence := .absent, sizeMatch := .unknown, lastOpResult := .none, ledMode := .off }

/-- The controller's registers right after RESET with every line available (70 R310). -/
def CtlRegs.reset : CtlRegs :=
  { slot := Vector.replicate 16 SlotState.reset, phase := .boot, wf := .none, cur := 0, settleCtr := 0, gerr := false, act := false,
    refValid := false, refSize := 0, refImage := none, runErr := .ok, fatalCode := .ok, muxAddr := 0 }

def SchedRegs.reset : SchedRegs :=
  { lamp := Vector.replicate 16 { cnt := 0, lvl := false }, bootCtr := 0, bootDone := false, ledVisible := 0 }

def SampRegs.reset : SampRegs :=
  { check := { dbState := .idle, dbCnt := 0 }, write := { dbState := .idle, dbCnt := 0 } }

/-- No pulse: `fa_req == 0` and with it `fa_cmd == 000` (47 R250). -/
def OutPins.quiet : OutPins :=
  { faReq := false, faCmd := .noCmd, faImage := none, archReq := false, archImage := none, evtCheck := false, evtWrite := false,
    latch := false }

/-- The machine right after `RESET(dip = 0, res_ok = 1)` (70 R310, R312), nothing pending. DESIGN CHOICE for `dip` (log entry 1),
`stIdx` (15), `stim` (6), `tSettle` (2) and `freeCtr` (5). -/
def State.reset : State :=
  { ctl := CtlRegs.reset, sched := SchedRegs.reset, samp := SampRegs.reset, speedCfg := 0, out := OutPins.quiet, stIdx := 0,
    stim := [], tSettle := Config.tSettle, freeCtr := 0 }

end Sys2Proof.Machine
end

