-- ==== Sys2Proof/Machine/Flags.lean ====
section
/-! DEFINITION. The lamp-mode function, its context and REDERIVE (44 R170, R173), and the flags and status outputs that are
functions of state (10_state R30, R36; 47 R253, R262, R265). -/

namespace Sys2Proof.Machine

/-- The context argument of LEDMODE (44 R170). -/
inductive LedCtx where
  | norm | act | gerr
deriving DecidableEq, Repr

/-- `LEDMODE(p, m, r, ctx)` (44 R170): the first matching line of the rule wins. -/
def ledModeOf (p : Presence) (m : SizeMatch) (r : OpResult) (ctx : LedCtx) : LedMode :=
  match ctx with
  | .gerr => .fastBlink
  | .act => .dataActivity
  | .norm =>
    match r with
    | .success => .on
    | .verifyFailed => .fastBlink
    | .readFailed => .fastBlink
    | .writeFailed => .fastBlink
    | .none =>
      match p with
      | .absent => .off
      | .present =>
        match m with
        | .matching => .slowBlink
        | .mismatch => .fastBlink
        | .unknown => .off

/-- `CTX(i)` (44 R173). -/
def ctxOf (c : CtlRegs) (i : Slot) : LedCtx :=
  if c.gerr then .gerr
  else if c.act = true ∧ i.val = c.cur.toNat then .act
  else .norm

/-- A record with its `ledMode` derived in a context. -/
def relamp (r : SlotState) (ctx : LedCtx) : SlotState :=
  { r with ledMode := ledModeOf r.presence r.sizeMatch r.lastOpResult ctx }

/-- The record of slot `i` (20_memory R61). -/
def recordAt (c : CtlRegs) (i : Slot) : SlotState := c.slot[i]

/-- The phase counter of slot `i` (10_state R39). -/
def lampAt (d : SchedRegs) (i : Slot) : LampPhase := d.lamp[i]

/-- `REDERIVE()` (44 R173), applied to the values a rule has just assigned. -/
def rederive (c : CtlRegs) : CtlRegs := { c with slot := Vector.ofFn fun i : Slot => relamp (recordAt c i) (ctxOf c i) }

/-- `busy = (phase != IDLE)` (10_state R30). -/
def busy (s : State) : Bool := decide (s.ctl.phase ≠ .idle)

/-- `ready = (phase != BOOT and phase != FATAL)` (10_state R30). -/
def ready (s : State) : Bool := decide (s.ctl.phase ≠ .boot ∧ s.ctl.phase ≠ .fatal)

/-- `fatal = (phase == FATAL)` (10_state R36). -/
def fatal (s : State) : Bool := decide (s.ctl.phase = .fatal)

/-- A wait phase (00_scope R16). -/
def isWait : Phase → Bool
  | .detect => true
  | .read => true
  | .write => true
  | .verify => true
  | .boot => false
  | .idle => false
  | .start => false
  | .select => false
  | .settle => false
  | .archive => false
  | .next => false
  | .fatal => false

/-- A request is outstanding exactly in a wait phase (47 R253). -/
def outstanding (s : State) : Bool := isWait s.ctl.phase

/-- `run_err[2:0]` (47 R265, 10_state R35). -/
def runErrPins (s : State) : BitVec 3 := s.ctl.runErr.code

/-- `fatal_code[2:0]` (47 R265, 10_state R36). -/
def fatalCodePins (s : State) : BitVec 3 := s.ctl.fatalCode.code

/-- `fa_speed` (47 R262). -/
def faSpeed (s : State) : BitVec 32 := s.speedCfg

/-- `evt[1:0]`: bit 0 CHECK, bit 1 WRITE (30_encoding R92). -/
def evtPins (s : State) : BitVec 2 := BitVec.ofBool s.out.evtWrite ++ BitVec.ofBool s.out.evtCheck

end Sys2Proof.Machine
end

