-- ==== Sys2Proof/Machine/Operands.lean ====
section
/-! DEFINITION. Reading operands: slot indices and records, the classes of an adapter answer (30_encoding R90), the failure kinds
(46 R227), the image of a READ answer, the packed record of the status port (30_encoding R85) and the button levels. -/

namespace Sys2Proof.Machine

/-! ### Slot records -/

/-- The record a natural-number index names, if there is one (20_memory R61, R68). -/
def slotOfNat (n : Nat) : Option Slot := if h : n < 16 then some ⟨n, h⟩ else none

/-- The record `slot[cur]`, if there is one. -/
def curSlot (c : CtlRegs) : Option Slot := slotOfNat c.cur.toNat

/-- A target slot is one with index 1 to 15 (00_scope R16); this is the test `cur >= 1`. -/
def isTarget (cur : BitVec 5) : Bool := decide (1 ≤ cur.toNat)

/-! ### Adapter answers -/

/-- The class of a DETECT answer (45 R201). -/
inductive DetectClass where
  | pres | abs | err
deriving DecidableEq, Repr

/-- `CLASS(status, flag)` (45 R201, 30_encoding R90). -/
def classify (status : ErrCode) (flag : Bool) : DetectClass :=
  if status = .ok ∧ flag = true then .pres
  else if status = .noChipDetected ∨ status = .ok then .abs
  else .err

/-- `KIND(WRITE, status)` for a non-OK status (46 R227). -/
def kindOfWrite : ErrCode → OpResult
  | .readFailure => .readFailed
  | .writeFailure => .writeFailed
  | .verifyFailure => .verifyFailed
  | _ => .writeFailed

/-- `KIND(VERIFY, status)` for a non-OK status (46 R227). -/
def kindOfVerify : ErrCode → OpResult
  | .readFailure => .readFailed
  | .writeFailure => .writeFailed
  | .verifyFailure => .verifyFailed
  | _ => .verifyFailed

/-- What a VERIFY answer records (46 R230): success needs `OK` and `flag == 1`. -/
def verifyResult (status : ErrCode) (flag : Bool) : OpResult :=
  if status = .ok then (if flag then .success else .verifyFailed) else kindOfVerify status

/-- The error a recorded failure kind belongs to (60 R270). -/
def errorOfResult : OpResult → ErrCode
  | .readFailed => .readFailure
  | .writeFailed => .writeFailure
  | .verifyFailed => .verifyFailure
  | .none => .ok
  | .success => .ok

/-- `sizeMatch` of a target of size `size` (45 R204, R205): exact equality, all bits. -/
def compareSize (size refSize : ChipSize) : SizeMatch := if size = refSize then .matching else .mismatch

/-! ### Images -/

/-- The ReferenceImage with the given bytes (10_state R34, 46 R223). -/
def imageOfBytes (bytes : List Byte) : RefImage := { bytes := bytes, len := bytes.length, hash := Config.hash bytes }

/-- The image an OK READ answer brings; where it brings none, a free value (log entry 5). -/
def imageOfRsp (r : Rsp) (freeCtr : Nat) : RefImage :=
  match r.image with
  | some bytes => imageOfBytes bytes
  | none => imageOfBytes (Config.freeImage freeCtr)

/-- The count of free values used, after the image of that answer is taken. -/
def freeCtrAfter (r : Rsp) (freeCtr : Nat) : Nat :=
  match r.image with
  | some _ => freeCtr
  | none => freeCtr + 1

/-! ### The packed record and the status port -/

/-- 30_encoding R81. -/
def Presence.code : Presence → BitVec 1
  | .absent => 0 | .present => 1

/-- 30_encoding R82. -/
def SizeMatch.code : SizeMatch → BitVec 2
  | .unknown => 0b00 | .matching => 0b01 | .mismatch => 0b10

/-- 30_encoding R83. -/
def OpResult.code : OpResult → BitVec 3
  | .none => 0b000 | .success => 0b001 | .verifyFailed => 0b010 | .readFailed => 0b011 | .writeFailed => 0b100

/-- 30_encoding R87. -/
def Workflow.code : Workflow → BitVec 2
  | .none => 0b00 | .check => 0b01 | .write => 0b10

/-- 30_encoding R81. -/
def Presence.ofCode (c : BitVec 1) : Presence := if c = 0 then .absent else .present

/-- 30_encoding R82; code 11 is reserved (R95). -/
def SizeMatch.ofCode (c : BitVec 2) : Option SizeMatch :=
  match c.toNat with
  | 0 => some .unknown | 1 => some .matching | 2 => some .mismatch
  | _ => none

/-- 30_encoding R83; codes 101 to 111 are reserved (R95). -/
def OpResult.ofCode (c : BitVec 3) : Option OpResult :=
  match c.toNat with
  | 0 => some .none | 1 => some .success | 2 => some .verifyFailed | 3 => some .readFailed | 4 => some .writeFailed
  | _ => Option.none

/-- `{presence[8], sizeMatch[7:6], lastOpResult[5:3], ledMode[2:0]}` (30_encoding R85, 10_state R27). -/
def packRecord (r : SlotState) : BitVec 9 := r.presence.code ++ r.sizeMatch.code ++ r.lastOpResult.code ++ r.ledMode.code

/-- The record a packed word stands for; none where a field holds a reserved code (30_encoding R95). -/
def unpackRecord (w : BitVec 9) : Option SlotState :=
  match SizeMatch.ofCode (w.extractLsb' 6 2), OpResult.ofCode (w.extractLsb' 3 3), LedMode.ofCode (w.extractLsb' 0 3) with
  | some m, some r, some l => some { presence := Presence.ofCode (w.extractLsb' 8 1), sizeMatch := m, lastOpResult := r, ledMode := l }
  | _, _, _ => none

/-- A 4-bit index names a record always (20_memory R68). -/
def slotOfIndex (i : BitVec 4) : Slot := ⟨i.toNat, i.isLt⟩

/-- `st_data`: the packed record of the slot that `st_idx` names, combinationally (47 R264). -/
def stData (s : State) : BitVec 9 := packRecord (recordAt s.ctl (slotOfIndex s.stIdx))

/-! ### Button levels -/

/-- The debouncer of a button. -/
def debouncerOf (p : SampRegs) : Button → Debouncer
  | .check => p.check
  | .write => p.write

/-- The logical level of a button pin, 1 = pressed, after polarity correction (10_state R44; BTN_ACTIVE_LOW of 00_scope R6). -/
def logicalLevel (activeLow pin : Bool) : Bool := pin != activeLow

end Sys2Proof.Machine
end

