-- ==== Sys2Proof/Machine/Ops.lean ====
section
/-! DEFINITION. The named operations that the meanings share: writes to the record array, output events, `select`, the commands to
the FlashAdapter, raising an error in its three classes (60 R275 to R280) and what takes an error's display down again. -/

namespace Sys2Proof.Machine

/-! ### Registers and pins -/

def State.withCtl (s : State) (c : CtlRegs) : State := { s with ctl := c }
def State.withSched (s : State) (c : SchedRegs) : State := { s with sched := c }
def State.withSamp (s : State) (c : SampRegs) : State := { s with samp := c }
def State.withOut (s : State) (o : OutPins) : State := { s with out := o }

/-- All pulses of the event before are over (47 R250: a pulse lasts one event). -/
def State.quiet (s : State) : State := s.withOut .quiet

/-- `phase <- p` (00_scope R14). -/
def State.toPhase (s : State) (p : Phase) : State := s.withCtl { s.ctl with phase := p }

/-- `slot[i] <- r` (00_scope R14). -/
def setRecord (c : CtlRegs) (i : Slot) (r : SlotState) : CtlRegs := { c with slot := c.slot.set i r }

/-- `slot[cur].f <- v`: the record of slot `cur` rewritten by `f`. With `cur` above 15 there is no record and nothing is written; the rest
of the rule happens all the same. DESIGN CHOICE (log entry 12), for states that no run reaches. -/
def setCurRecord (c : CtlRegs) (f : SlotState → SlotState) : CtlRegs :=
  match curSlot c with
  | some i => setRecord c i (f (recordAt c i))
  | none => c

/-- The test `slot[n].sizeMatch == match` (44 R181). For an `n` above 15 there is no record, and the answer is a free value (log
entry 12). -/
def slotMatches (c : CtlRegs) (n : Nat) : Bool :=
  match slotOfNat n with
  | some i => decide ((recordAt c i).sizeMatch = .matching)
  | none => Config.missingMatches n

/-- `cur <- n` (44 R181): `n` in 5 bits; where it does not fit, a free value (log entry 12). -/
def curOfNat (n : Nat) : BitVec 5 := if n < 32 then BitVec.ofNat 5 n else Config.curBeyond n

/-- What an agent does while it runs: in `FATAL` every agent has stopped and nothing happens (60 R280); elsewhere `k`, from pins
with no pulse. -/
def whileRunning (s : State) (k : State → Host.Outcome State Fault Refusal) : Host.Outcome State Fault Refusal :=
  if s.ctl.phase = .fatal then .next s.quiet else k s.quiet

/-! ### Output events -/

/-- `emit fa_req(cmd, image)` (47 R250). -/
def emitRequest (s : State) (cmd : FaCmd) (image : Option RefImage) : State :=
  s.withOut { s.out with faReq := true, faCmd := cmd, faImage := image }

/-- `emit arch_req(ref_image.bytes, ref_image.hash)` (46 R225, 47 R259). With `ref_image == none` there are no bytes and no hash, and the
spec gives no case: `arch_req` pulses all the same, with no image on its channel. DESIGN CHOICE (log entry 25). -/
def emitStore (s : State) : State := s.withOut { s.out with archReq := true, archImage := s.ctl.refImage }

/-- `render(p)`: the whole latch changes at once (41 R120). -/
def renderPattern (s : State) (p : Pattern) : State :=
  (s.withSched { s.sched with ledVisible := p }).withOut { s.out with latch := true }

/-- The image a command carries: WRITE and VERIFY carry `ref_image` (30_encoding R89). -/
def commandImage (c : CtlRegs) : FaCmd → Option RefImage
  | .write => c.refImage
  | .verify => c.refImage
  | .noCmd => none
  | .detect => none
  | .read => none

/-- The wait phase a command is answered in (47 R252). -/
def commandPhase (p : Phase) : FaCmd → Phase
  | .noCmd => p
  | .detect => .detect
  | .read => .read
  | .write => .write
  | .verify => .verify

/-- Issue a command: emit it and enter its wait phase, and change nothing else (47 R252, 45 R201). -/
def issueCommand (s : State) (cmd : FaCmd) : State :=
  (emitRequest s cmd (commandImage s.ctl cmd)).toPhase (commandPhase s.ctl.phase cmd)

/-! ### Taking an error -/

/-- The three classes of 60 R275. -/
inductive ErrClass where
  | slotLevel | runLevel | processLevel
deriving DecidableEq, Repr

/-- `ABORT(code)` on the controller's registers (44 R182). -/
def abortRegs (c : CtlRegs) (code : ErrCode) : CtlRegs :=
  rederive { c with gerr := true, runErr := code, act := false, refImage := none, wf := .none, phase := .idle }

/-- The end of a slot's turn: `REDERIVE()`, then `phase <- NEXT` (45 R203, R204; 46 R228, R230). -/
def slotDone (c : CtlRegs) : CtlRegs := { rederive c with phase := .next }

/-- `FATAL(code)` on the controller's registers (60 R280). -/
def fatalRegs (c : CtlRegs) (code : ErrCode) : CtlRegs := { c with phase := .fatal, fatalCode := code }

/-- `raise E`: taking an error, ONE operation for the three classes. The assignments to the slot's record that the raising rule
writes are already made in `s`. Slot-level: REDERIVE and on to NEXT, nothing else (60 R276). Run-level: ABORT (R277). Process-level:
FATAL (R280). -/
def raiseError (s : State) (cls : ErrClass) (code : ErrCode) : State :=
  match cls with
  | .slotLevel => s.withCtl (slotDone s.ctl)
  | .runLevel => s.withCtl (abortRegs s.ctl code)
  | .processLevel => s.withCtl (fatalRegs s.ctl code)

/-- What takes a run-level error's report down: there is no return operation, the next workflow's START clears `gerr` and `run_err`
(60 R287, 44 R176). REDERIVE, written last in that rule, restores the lamps. -/
def clearRunError (c : CtlRegs) : CtlRegs := { c with gerr := false, runErr := .ok }

/-- How a workflow returns to IDLE (44 R181, 60 R287). -/
def endWorkflow (c : CtlRegs) : CtlRegs := { c with wf := .none, refImage := none, phase := .idle }

/-! ### The slot address -/

/-- `select(s)` and what follows it in the calling rule: the range check comes first and on failure nothing else of the rule
happens (40 R110, R112; 44 R178; 60 R284). -/
def selectThen (s : State) (n : Nat) (k : State → Host.Outcome State Fault Refusal) : Host.Outcome State Fault Refusal :=
  if n > 15 then .next (raiseError s .processLevel .addressOutOfRange)
  else k (s.withCtl { s.ctl with muxAddr := BitVec.ofNat 4 n })

end Sys2Proof.Machine
end

