-- ==== Sys2Proof/Machine/Buttons.lean ====
section
/-! DEFINITION. ButtonInput: SAMPLE (43 R150), one operation per debounce state (43 R152 to R155), the hand-off (43 R158). -/

namespace Sys2Proof.Machine

/-- What `DEBOUNCE` returns (43 R151): the new state and count, and `e` = this sample confirms a press. -/
structure DebounceResult where
  deb : Debouncer
  e : Bool
deriving DecidableEq, Repr

/-- 43 R152. -/
def debounceIdle (_ : BitVec 4) (r : Bool) : DebounceResult :=
  if r then { deb := { dbState := .pressedPending, dbCnt := 1 }, e := false }
  else { deb := { dbState := .idle, dbCnt := 0 }, e := false }

/-- 43 R153. -/
def debouncePend (cnt : BitVec 4) (r : Bool) : DebounceResult :=
  if r then
    if cnt.toNat + 1 ≥ Config.debounceSamples then { deb := { dbState := .pressedConfirmed, dbCnt := 0 }, e := true }
    else { deb := { dbState := .pressedPending, dbCnt := cnt + 1 }, e := false }
  else { deb := { dbState := .idle, dbCnt := 0 }, e := false }

/-- 43 R154. -/
def debounceConf (_ : BitVec 4) (r : Bool) : DebounceResult :=
  if r then { deb := { dbState := .pressedConfirmed, dbCnt := 0 }, e := false }
  else { deb := { dbState := .released, dbCnt := 1 }, e := false }

/-- 43 R155. -/
def debounceRel (cnt : BitVec 4) (r : Bool) : DebounceResult :=
  if r then { deb := { dbState := .pressedConfirmed, dbCnt := 0 }, e := false }
  else if cnt.toNat + 1 ≥ Config.debounceSamples then { deb := { dbState := .idle, dbCnt := 0 }, e := false }
  else { deb := { dbState := .released, dbCnt := cnt + 1 }, e := false }

/-- `DEBOUNCE(state, cnt, r)` (43 R151). -/
def debounce (d : Debouncer) (r : Bool) : DebounceResult :=
  match d.dbState with
  | .idle => debounceIdle d.dbCnt r
  | .pressedPending => debouncePend d.dbCnt r
  | .pressedConfirmed => debounceConf d.dbCnt r
  | .released => debounceRel d.dbCnt r

/-- `HANDOFF(evt)` (43 R158): CHECK first, only in IDLE, otherwise every event is dropped. -/
def handoff (s : State) (eC eW : Bool) : State :=
  if eC = true ∧ s.ctl.phase = .idle then s.withCtl { s.ctl with wf := .check, phase := .start }
  else if eW = true ∧ s.ctl.phase = .idle then s.withCtl { s.ctl with wf := .write, phase := .start }
  else s

/-- The running part of SAMPLE (43 R150): debounce both buttons, show `evt`, hand it off. -/
def sampleButtons (rC rW : Bool) (s : State) : State :=
  let c := debounce s.samp.check rC
  let w := debounce s.samp.write rW
  handoff ((s.withSamp { check := c.deb, write := w.deb }).withOut { s.out with evtCheck := c.e, evtWrite := w.e }) c.e w.e

/-- `SAMPLE(rC, rW)` (43 R150). -/
def execSample (rC rW : Bool) (s : State) : Host.Outcome State Fault Refusal :=
  whileRunning s fun s => .next (sampleButtons rC rW s)

/-! ### The operations by themselves (log entry 8) -/

/-- Apply one DEBOUNCE operation to one button: its registers and its bit of `evt`. The hand-off is SAMPLE's. -/
def debounceButton (s : State) (b : Button) (f : BitVec 4 → DebounceResult) : State :=
  let d := f (debouncerOf s.samp b).dbCnt
  match b with
  | .check => (s.withSamp { s.samp with check := d.deb }).withOut { s.out with evtCheck := d.e }
  | .write => (s.withSamp { s.samp with write := d.deb }).withOut { s.out with evtWrite := d.e }

/-- `DB.IDLE` (43 R152). -/
def execDbIdle (b : Button) (r : Bool) (s : State) : Host.Outcome State Fault Refusal :=
  whileRunning s fun s => .next (debounceButton s b fun cnt => debounceIdle cnt r)

/-- `DB.PEND` (43 R153). -/
def execDbPend (b : Button) (r : Bool) (s : State) : Host.Outcome State Fault Refusal :=
  whileRunning s fun s => .next (debounceButton s b fun cnt => debouncePend cnt r)

/-- `DB.CONF` (43 R154). -/
def execDbConf (b : Button) (r : Bool) (s : State) : Host.Outcome State Fault Refusal :=
  whileRunning s fun s => .next (debounceButton s b fun cnt => debounceConf cnt r)

/-- `DB.REL` (43 R155). -/
def execDbRel (b : Button) (r : Bool) (s : State) : Host.Outcome State Fault Refusal :=
  whileRunning s fun s => .next (debounceButton s b fun cnt => debounceRel cnt r)

end Sys2Proof.Machine
end

