-- ==== Sys2Proof/Machine/Commands.lean ====
section
/-! DEFINITION. The operations at the engine's other pins: the four FlashAdapter commands (45 R201; 46 R223, R227), STORE
(47 R259), SELECT (40 R110), STAT (47 R264), each by itself (log entry 8). -/

namespace Sys2Proof.Machine

/-- `DETECT` (45 R201). -/
def execDetect (s : State) : Host.Outcome State Fault Refusal :=
  whileRunning s fun s => .next (issueCommand s .detect)

/-- `READ` (46 R223). -/
def execRead (s : State) : Host.Outcome State Fault Refusal :=
  whileRunning s fun s => .next (issueCommand s .read)

/-- `WRITE` (46 R227). -/
def execWrite (s : State) : Host.Outcome State Fault Refusal :=
  whileRunning s fun s => .next (issueCommand s .write)

/-- `VERIFY` (46 R227). -/
def execVerify (s : State) : Host.Outcome State Fault Refusal :=
  whileRunning s fun s => .next (issueCommand s .verify)

/-- `STORE` (47 R259). -/
def execStore (s : State) : Host.Outcome State Fault Refusal :=
  whileRunning s fun s => .next (emitStore s)

/-- `SELECT n` (40 R110, R112). -/
def execSelect (n : BitVec 5) (s : State) : Host.Outcome State Fault Refusal :=
  whileRunning s fun s => selectThen s n.toNat fun s => .next s

/-- `STAT i` (47 R264): the host drives `st_idx`, and `stData` answers at once; no agent is touched, in any phase. -/
def execStat (i : BitVec 4) (s : State) : Host.Outcome State Fault Refusal := .next { s with stIdx := i }

end Sys2Proof.Machine
end

