-- ==== Sys2Proof/Machine/Lamps.lean ====
section
/-! DEFINITION. BlinkScheduler and LEDMatrix: TICK (42 R130, R140), one operation per lamp mode (42 R133 to R137), RENDER (41 R120). -/

namespace Sys2Proof.Machine

/-! ### BLINK, one operation per lamp mode -/

/-- The common part of the two blinking modes: toggle when `cnt + 1`, computed without wrap-around, has reached the period
(42 R132, R135, R136). -/
def blinkEvery (period : Nat) (p : LampPhase) : LampPhase :=
  if p.cnt.toNat + 1 ≥ period then { cnt := 0, lvl := !p.lvl } else { p with cnt := p.cnt + 1 }

/-- 42 R133. -/
def blinkOff (_ : LampPhase) : LampPhase := { cnt := 0, lvl := false }

/-- 42 R134. -/
def blinkOn (_ : LampPhase) : LampPhase := { cnt := 0, lvl := true }

/-- 42 R135. -/
def blinkSlow (p : LampPhase) : LampPhase := blinkEvery Config.nSlow p

/-- 42 R136. -/
def blinkFast (p : LampPhase) : LampPhase := blinkEvery Config.mFast p

/-- 42 R137. -/
def blinkData (p : LampPhase) : LampPhase := { cnt := 0, lvl := !p.lvl }

/-- `BLINK(mode, cnt, lvl)` (42 R132). -/
def blink (m : LedMode) (p : LampPhase) : LampPhase :=
  match m with
  | .off => blinkOff p
  | .on => blinkOn p
  | .slowBlink => blinkSlow p
  | .fastBlink => blinkFast p
  | .dataActivity => blinkData p

/-- The pattern with bit i = `lvl[i]` (42 R130). -/
def lampPattern (lamp : Vector LampPhase 16) : Pattern := BitVec.ofFnLE fun i : Slot => lamp[i].lvl

/-! ### TICK -/

/-- `BOOT_ANIM[k] = 1 << k` (00_scope R6, 42 R140). -/
def bootAnim (k : Nat) : Pattern := 1#16 <<< k

/-- `BOOT_TICK()` (42 R140). -/
def bootTick (s : State) : State :=
  if s.sched.bootCtr.toNat < Config.bootLen then
    let s' := renderPattern s (bootAnim s.sched.bootCtr.toNat)
    s'.withSched { s'.sched with bootCtr := s.sched.bootCtr + 1 }
  else
    let s' := renderPattern s 0
    s'.withSched { s'.sched with bootDone := true }

/-- The normal branch of TICK (42 R130): the 16 slots at once, then the pattern of the new lamp bits. -/
def lampTick (s : State) : State :=
  let lamp := Vector.ofFn fun i : Slot => blink (recordAt s.ctl i).ledMode (lampAt s.sched i)
  renderPattern (s.withSched { s.sched with lamp := lamp }) (lampPattern lamp)

/-- `TICK` (42 R130). -/
def execTick (s : State) : Host.Outcome State Fault Refusal :=
  whileRunning s fun s => if s.sched.bootDone then .next (lampTick s) else .next (bootTick s)

/-! ### The operations by themselves (log entry 8) -/

/-- Apply one BLINK operation to one slot's `cnt` and `lvl`. -/
def blinkSlot (s : State) (i : Slot) (f : LampPhase → LampPhase) : State :=
  s.withSched { s.sched with lamp := s.sched.lamp.set i (f (lampAt s.sched i)) }

/-- `BL.OFF` (42 R133). -/
def execBlOff (i : Slot) (s : State) : Host.Outcome State Fault Refusal :=
  whileRunning s fun s => .next (blinkSlot s i blinkOff)

/-- `BL.ON` (42 R134). -/
def execBlOn (i : Slot) (s : State) : Host.Outcome State Fault Refusal :=
  whileRunning s fun s => .next (blinkSlot s i blinkOn)

/-- `BL.SLOW` (42 R135). -/
def execBlSlow (i : Slot) (s : State) : Host.Outcome State Fault Refusal :=
  whileRunning s fun s => .next (blinkSlot s i blinkSlow)

/-- `BL.FAST` (42 R136). -/
def execBlFast (i : Slot) (s : State) : Host.Outcome State Fault Refusal :=
  whileRunning s fun s => .next (blinkSlot s i blinkFast)

/-- `BL.DATA` (42 R137). -/
def execBlData (i : Slot) (s : State) : Host.Outcome State Fault Refusal :=
  whileRunning s fun s => .next (blinkSlot s i blinkData)

/-- `RENDER` (41 R120). -/
def execRender (p : Pattern) (s : State) : Host.Outcome State Fault Refusal :=
  whileRunning s fun s => .next (renderPattern s p)

end Sys2Proof.Machine
end

