-- ==== Sys2Proof/Machine/Phases.lean ====
section
/-! DEFINITION. The Controller: what each phase does on a CTL and on an RSP (44 R175 to R181; 45 R203, R204; 46 R222 to R230), the
two controller events that dispatch on `phase` (44 R171, R172), and the twelve phase operations. -/

namespace Sys2Proof.Machine

/-! ### Phases on a CTL -/

/-- CTL in BOOT (44 R175). -/
def bootOnCtl (s : State) : State := if s.sched.bootDone then s.toPhase .idle else s

/-- The three detection fields of a record at the start of a workflow (44 R176); `ledMode` follows by REDERIVE. -/
def clearedRecord (r : SlotState) : SlotState := { r with presence := .absent, sizeMatch := .unknown, lastOpResult := .none }

/-- What START clears of the record array: all of it for CHECK, slot 0 otherwise (44 R176). -/
def startSlots (c : CtlRegs) : Vector SlotState 16 :=
  match c.wf with
  | .check => Vector.ofFn fun i : Slot => clearedRecord (recordAt c i)
  | .write => c.slot.set 0 (clearedRecord (recordAt c 0))
  | .none => c.slot.set 0 (clearedRecord (recordAt c 0))

/-- CTL in START (44 R176). -/
def startOnCtl (s : State) : State :=
  let c := { clearRunError s.ctl with act := false, refImage := none, refValid := false, cur := 0, slot := startSlots s.ctl }
  s.withCtl { rederive c with phase := .select }

/-- What SELECT writes after `select(cur)` (44 R178). -/
def selectedRegs (c : CtlRegs) (tSettle : BitVec 16) : CtlRegs :=
  if c.wf = .write ∧ isTarget c.cur = true then { rederive { c with settleCtr := tSettle, act := true } with phase := .settle }
  else { c with settleCtr := tSettle, phase := .settle }

/-- CTL in SELECT (44 R178). -/
def selectOnCtl (s : State) : Host.Outcome State Fault Refusal :=
  selectThen s s.ctl.cur.toNat fun s => .next (s.withCtl (selectedRegs s.ctl s.tSettle))

/-- CTL in SETTLE (44 R179). -/
def settleOnCtl (s : State) : State :=
  if s.ctl.settleCtr ≠ 0 then s.withCtl { s.ctl with settleCtr := s.ctl.settleCtr - 1 }
  else if s.ctl.cur = 0 ∨ s.ctl.wf = .check then issueCommand s .detect
  else issueCommand s .write

/-- CTL in ARCHIVE (46 R225). -/
def archiveOnCtl (s : State) : State := (emitStore s).toPhase .next

/-- CTL in NEXT (44 R181), `n = cur + 1` as a natural number. -/
def nextOnCtl (s : State) : State :=
  let n := s.ctl.cur.toNat + 1
  if n = 16 then s.withCtl (endWorkflow s.ctl)
  else
    let p := if s.ctl.wf = .check ∨ slotMatches s.ctl n = true then Phase.select else Phase.next
    s.withCtl { s.ctl with cur := curOfNat n, phase := p }

/-! ### Phases on an RSP -/

/-- DETECT answer for slot 0 in a CHECK (45 R203). -/
def refDetectedInCheck (r : Rsp) (s : State) : State :=
  let r0 := recordAt s.ctl 0
  match classify r.status r.flag with
  | .pres =>
    let c := setRecord s.ctl 0 { r0 with presence := .present, sizeMatch := .matching }
    s.withCtl (slotDone { c with refSize := r.size, refValid := true })
  | .abs => raiseError (s.withCtl (setRecord s.ctl 0 { r0 with presence := .absent })) .runLevel .noChipDetected
  | .err => raiseError (s.withCtl (setRecord s.ctl 0 { r0 with presence := .absent })) .runLevel .noChipDetected

/-- DETECT answer for slot 0 in a WRITE (46 R222). -/
def refDetectedInWrite (r : Rsp) (s : State) : State :=
  let r0 := recordAt s.ctl 0
  match classify r.status r.flag with
  | .pres =>
    let c := setRecord s.ctl 0 { r0 with presence := .present, sizeMatch := .matching }
    issueCommand (s.withCtl (rederive { c with refSize := r.size, refValid := true, act := true })) .read
  | .abs => raiseError (s.withCtl (setRecord s.ctl 0 { r0 with presence := .absent })) .runLevel .noChipDetected
  | .err => raiseError (s.withCtl (setRecord s.ctl 0 { r0 with presence := .absent })) .runLevel .noChipDetected

/-- DETECT answer for the target slot `cur` (45 R204). -/
def targetDetected (r : Rsp) (s : State) : State :=
  match classify r.status r.flag with
  | .pres =>
    let m := compareSize r.size s.ctl.refSize
    let s' := s.withCtl (setCurRecord s.ctl fun ri => { ri with presence := .present, sizeMatch := m })
    match m with
    | .mismatch => raiseError s' .slotLevel .sizeMismatch
    | .matching => s'.withCtl (slotDone s'.ctl)
    | .unknown => s'.withCtl (slotDone s'.ctl)
  | .abs =>
    raiseError (s.withCtl (setCurRecord s.ctl fun ri => { ri with presence := .absent, sizeMatch := .unknown })) .slotLevel .noChipDetected
  | .err =>
    raiseError (s.withCtl (setCurRecord s.ctl fun ri => { ri with presence := .present, sizeMatch := .mismatch })) .slotLevel .sizeMismatch

/-- RSP in DETECT (44 R172). With `cur == 0` and no workflow none of the rule's cases fires, so nothing happens (60 R271; log
entry 13). -/
def detectOnRsp (r : Rsp) (s : State) : State :=
  if isTarget s.ctl.cur then targetDetected r s
  else
    match s.ctl.wf with
    | .check => refDetectedInCheck r s
    | .write => refDetectedInWrite r s
    | .none => s

/-- RSP in READ (46 R224). -/
def readOnRsp (r : Rsp) (s : State) : State :=
  let r0 := recordAt s.ctl 0
  if r.status = .ok then
    let c := setRecord s.ctl 0 { r0 with lastOpResult := .success }
    let c' := rederive { c with refImage := some (imageOfRsp r s.freeCtr), act := false }
    { s.withCtl { c' with phase := .archive } with freeCtr := freeCtrAfter r s.freeCtr }
  else raiseError (s.withCtl (setRecord s.ctl 0 { r0 with lastOpResult := .readFailed })) .runLevel .readFailure

/-- The end of a target's attempt with result `k` (46 R228, R230): record it, clear `act`; a failure raises its slot-level error. -/
def attemptDone (k : OpResult) (s : State) : State :=
  let s' := s.withCtl { setCurRecord s.ctl fun ri => { ri with lastOpResult := k } with act := false }
  match k with
  | .success => s'.withCtl (slotDone s'.ctl)
  | .none => s'.withCtl (slotDone s'.ctl)
  | .verifyFailed => raiseError s' .slotLevel (errorOfResult k)
  | .readFailed => raiseError s' .slotLevel (errorOfResult k)
  | .writeFailed => raiseError s' .slotLevel (errorOfResult k)

/-- RSP in WRITE (46 R228); `flag` is ignored. -/
def writeOnRsp (r : Rsp) (s : State) : State :=
  if r.status = .ok then issueCommand s .verify else attemptDone (kindOfWrite r.status) s

/-- RSP in VERIFY (46 R230). -/
def verifyOnRsp (r : Rsp) (s : State) : State := attemptDone (verifyResult r.status r.flag) s

/-! ### The two controller events -/

/-- `CTL` (44 R171): the current phase says what it does. -/
def execCtl (s : State) : Host.Outcome State Fault Refusal :=
  whileRunning s fun s =>
    match s.ctl.phase with
    | .boot => .next (bootOnCtl s)
    | .idle => .next s
    | .start => .next (startOnCtl s)
    | .select => selectOnCtl s
    | .settle => .next (settleOnCtl s)
    | .detect => .next s
    | .read => .next s
    | .archive => .next (archiveOnCtl s)
    | .write => .next s
    | .verify => .next s
    | .next => .next (nextOnCtl s)
    | .fatal => .next s

/-- `RSP(status, flag, size, image)` (44 R172); outside the wait phases it changes nothing (47 R254). -/
def execRsp (r : Rsp) (s : State) : Host.Outcome State Fault Refusal :=
  whileRunning s fun s =>
    match s.ctl.phase with
    | .detect => .next (detectOnRsp r s)
    | .read => .next (readOnRsp r s)
    | .write => .next (writeOnRsp r s)
    | .verify => .next (verifyOnRsp r s)
    | .boot => .next s
    | .idle => .next s
    | .start => .next s
    | .select => .next s
    | .settle => .next s
    | .archive => .next s
    | .next => .next s
    | .fatal => .next s

/-! ### The phase operations (format P, 30_encoding R86): what a phase does on the controller event it is given (log entry 8) -/

/-- `PH.BOOT` (44 R175). -/
def execPhBoot (e : CtlEvent) (s : State) : Host.Outcome State Fault Refusal :=
  whileRunning s fun s => match e with
    | .ctl => .next (bootOnCtl s)
    | .rsp _ => .next s

/-- `PH.IDLE` (44 R175). -/
def execPhIdle (e : CtlEvent) (s : State) : Host.Outcome State Fault Refusal :=
  whileRunning s fun s => match e with
    | .ctl => .next s
    | .rsp _ => .next s

/-- `PH.START` (44 R176). -/
def execPhStart (e : CtlEvent) (s : State) : Host.Outcome State Fault Refusal :=
  whileRunning s fun s => match e with
    | .ctl => .next (startOnCtl s)
    | .rsp _ => .next s

/-- `PH.SELECT` (44 R178). -/
def execPhSelect (e : CtlEvent) (s : State) : Host.Outcome State Fault Refusal :=
  whileRunning s fun s => match e with
    | .ctl => selectOnCtl s
    | .rsp _ => .next s

/-- `PH.SETTLE` (44 R179). -/
def execPhSettle (e : CtlEvent) (s : State) : Host.Outcome State Fault Refusal :=
  whileRunning s fun s => match e with
    | .ctl => .next (settleOnCtl s)
    | .rsp _ => .next s

/-- `PH.DETECT` (44 R180; 45 R203, R204; 46 R222). -/
def execPhDetect (e : CtlEvent) (s : State) : Host.Outcome State Fault Refusal :=
  whileRunning s fun s => match e with
    | .ctl => .next s
    | .rsp r => .next (detectOnRsp r s)

/-- `PH.READ` (44 R180; 46 R224). -/
def execPhRead (e : CtlEvent) (s : State) : Host.Outcome State Fault Refusal :=
  whileRunning s fun s => match e with
    | .ctl => .next s
    | .rsp r => .next (readOnRsp r s)

/-- `PH.ARCHIVE` (46 R225). -/
def execPhArchive (e : CtlEvent) (s : State) : Host.Outcome State Fault Refusal :=
  whileRunning s fun s => match e with
    | .ctl => .next (archiveOnCtl s)
    | .rsp _ => .next s

/-- `PH.WRITE` (44 R180; 46 R228). -/
def execPhWrite (e : CtlEvent) (s : State) : Host.Outcome State Fault Refusal :=
  whileRunning s fun s => match e with
    | .ctl => .next s
    | .rsp r => .next (writeOnRsp r s)

/-- `PH.VERIFY` (44 R180; 46 R230). -/
def execPhVerify (e : CtlEvent) (s : State) : Host.Outcome State Fault Refusal :=
  whileRunning s fun s => match e with
    | .ctl => .next s
    | .rsp r => .next (verifyOnRsp r s)

/-- `PH.NEXT` (44 R181). -/
def execPhNext (e : CtlEvent) (s : State) : Host.Outcome State Fault Refusal :=
  whileRunning s fun s => match e with
    | .ctl => .next (nextOnCtl s)
    | .rsp _ => .next s

/-- `PH.FATAL` (60 R280): nothing, on either event. -/
def execPhFatal (e : CtlEvent) (s : State) : Host.Outcome State Fault Refusal :=
  match e with
  | .ctl => .next s.quiet
  | .rsp _ => .next s.quiet

end Sys2Proof.Machine
end

