-- ==== Sys2Proof/Machine/Reset.lean ====
section
/-! DEFINITION. RESET (70 R310, R311). -/

namespace Sys2Proof.Machine

/-- Every register at its reset value (10_state R45), `speed_cfg` at `dip`; the host's side of the machine (its pending stimuli,
`st_idx`, the parameter, the count of free values) is not the engine's to reset (log entries 2, 5, 6, 15). -/
def resetRegs (dip : BitVec 32) (s : State) : State :=
  { s with ctl := CtlRegs.reset, sched := SchedRegs.reset, samp := SampRegs.reset, speedCfg := dip, out := OutPins.quiet }

/-- `RESET(dip, res_ok)` (70 R310): in every state, `FATAL` too; with a line unavailable it raises `ResourceBusy` (R311). -/
def execReset (dip : BitVec 32) (resOk : Bool) (s : State) : Host.Outcome State Fault Refusal :=
  let s' := resetRegs dip s
  if resOk then .next s' else .next (raiseError s' .processLevel .resourceBusy)

end Sys2Proof.Machine
end

