-- ==== Sys2Proof/Machine/Dispatch.lean ====
section
/-! DEFINITION. exec: one arm per row of spec/opcode_table.json, in the table's order, each a direct call of its meaning. -/

namespace Sys2Proof.Machine

def exec (i : Instr) (s : State) : Host.Outcome State Fault Refusal :=
  match i with
  | .reset dip resOk => Sys2Proof.Machine.execReset dip resOk s
  | .ctl => Sys2Proof.Machine.execCtl s
  | .tick => Sys2Proof.Machine.execTick s
  | .sample rC rW => Sys2Proof.Machine.execSample rC rW s
  | .rsp r => Sys2Proof.Machine.execRsp r s
  | .phBoot e => Sys2Proof.Machine.execPhBoot e s
  | .phIdle e => Sys2Proof.Machine.execPhIdle e s
  | .phStart e => Sys2Proof.Machine.execPhStart e s
  | .phSelect e => Sys2Proof.Machine.execPhSelect e s
  | .phSettle e => Sys2Proof.Machine.execPhSettle e s
  | .phDetect e => Sys2Proof.Machine.execPhDetect e s
  | .phRead e => Sys2Proof.Machine.execPhRead e s
  | .phArchive e => Sys2Proof.Machine.execPhArchive e s
  | .phWrite e => Sys2Proof.Machine.execPhWrite e s
  | .phVerify e => Sys2Proof.Machine.execPhVerify e s
  | .phNext e => Sys2Proof.Machine.execPhNext e s
  | .phFatal e => Sys2Proof.Machine.execPhFatal e s
  | .blOff k => Sys2Proof.Machine.execBlOff k s
  | .blOn k => Sys2Proof.Machine.execBlOn k s
  | .blSlow k => Sys2Proof.Machine.execBlSlow k s
  | .blFast k => Sys2Proof.Machine.execBlFast k s
  | .blData k => Sys2Proof.Machine.execBlData k s
  | .dbIdle b r => Sys2Proof.Machine.execDbIdle b r s
  | .dbPend b r => Sys2Proof.Machine.execDbPend b r s
  | .dbConf b r => Sys2Proof.Machine.execDbConf b r s
  | .dbRel b r => Sys2Proof.Machine.execDbRel b r s
  | .detect => Sys2Proof.Machine.execDetect s
  | .read => Sys2Proof.Machine.execRead s
  | .write => Sys2Proof.Machine.execWrite s
  | .verify => Sys2Proof.Machine.execVerify s
  | .select n => Sys2Proof.Machine.execSelect n s
  | .stat k => Sys2Proof.Machine.execStat k s
  | .store => Sys2Proof.Machine.execStore s
  | .render p => Sys2Proof.Machine.execRender p s

end Sys2Proof.Machine
end

