-- ==== Sys2Proof/Machine/Fetch.lean ====
section
/-! DEFINITION. Fetching: the machine takes the next stimulus of the host's queue (log entry 6). -/

namespace Sys2Proof.Machine

/-- What a clock cycle with no strobe and no answer is: a `CTL` (10_state R48; log entry 7). -/
def quietCycle : Stimulus := { port := .stimulus, code := 0 }

/-- The stimulus the next step runs. -/
def fetch (s : State) : Stimulus :=
  match s.stim with
  | [] => quietCycle
  | u :: _ => u

/-- The state with that stimulus taken off the queue. -/
def advance (s : State) : State := { s with stim := s.stim.tail }

/-- The state with a stimulus put where the next step fetches. -/
def State.withNext (s : State) (u : Stimulus) : State := { s with stim := u :: s.stim }

/-- The answer of a step whose stimulus is ill-formed (30_encoding R95). -/
def refuseIllFormed (e : DecodeError) : Host.Outcome State Fault Refusal := .refused (.illFormed e)

end Sys2Proof.Machine
end

