-- ==== Sys2Proof/Machine/Step.lean ====
section
/-! DEFINITION. One step: take the next stimulus, decode it, run it. -/

namespace Sys2Proof.Machine

/-- One step of the machine (00_scope R9: one atomic event). -/
def step (s : State) : Host.Outcome State Fault Refusal :=
  match decode (fetch s) with
  | .error e => refuseIllFormed e
  | .ok i => exec i (advance s)

/-- `s` with the table word `w` of `nbits` bits as the very next stimulus. -/
def State.withFetchWord (s : State) (nbits w : Nat) : State := s.withNext (tableStimulus nbits w)

end Sys2Proof.Machine
end

