-- ==== Sys2Proof/Machine/Script.lean ====
section
/-! DEFINITION. Stimulus scripts (30_encoding R97, R99): a sequence of events run one after the other, and the pseudo-operations with
their expansions. -/

namespace Sys2Proof.Machine

/-- Run a sequence of operations, stopping at the first fault or refusal. -/
def runInstrs : List Instr → State → Host.Outcome State Fault Refusal
  | [], s => .next s
  | i :: is, s =>
    match exec i s with
    | .next s' => runInstrs is s'
    | .fault f => .fault f
    | .refused r => .refused r

/-- `BOOT` (30_encoding R99). -/
def scriptBoot : List Instr := List.replicate (Config.bootLen + 1) .tick ++ [.ctl]

/-- `TICKS n` (30_encoding R99). -/
def scriptTicks (n : Nat) : List Instr := List.replicate n .tick

/-- `PRESS CHECK` (30_encoding R99). -/
def scriptPressCheck : List Instr := List.replicate Config.debounceSamples (.sample true false)

/-- `PRESS WRITE` (30_encoding R99). -/
def scriptPressWrite : List Instr := List.replicate Config.debounceSamples (.sample false true)

/-- `PRESS BOTH` (30_encoding R99). -/
def scriptPressBoth : List Instr := List.replicate Config.debounceSamples (.sample true true)

/-- `RELEASE` (30_encoding R99). -/
def scriptRelease : List Instr := List.replicate Config.debounceSamples (.sample false false)

/-- `CHIP n` (30_encoding R99). -/
def scriptChip (n : ChipSize) : Instr := .rsp { status := .ok, flag := true, size := n, image := none }

/-- `EMPTY` (30_encoding R99). -/
def scriptEmpty : Instr := .rsp { status := .noChipDetected, flag := false, size := 0, image := none }

/-- `OKAY` (30_encoding R99). -/
def scriptOkay : Instr := .rsp { status := .ok, flag := true, size := 0, image := none }

/-- `IMAGE name` (30_encoding R99). -/
def scriptImage (bytes : List Byte) : Instr :=
  .rsp { status := .ok, flag := false, size := BitVec.ofNat 32 bytes.length, image := some bytes }

/-- `FAIL name` (30_encoding R99). -/
def scriptFail (e : ErrCode) : Instr := .rsp { status := e, flag := false, size := 0, image := none }

/-- Where `RUN` stops (30_encoding R99). -/
def runStops (s : State) : Bool :=
  decide (s.ctl.phase = .idle) || decide (s.ctl.phase = .fatal) || isWait s.ctl.phase ||
    (decide (s.ctl.phase = .boot) && !s.sched.bootDone)

/-- `RUN` (30_encoding R99), with no bound: `t` is where CTL, repeated until `runStops`, ends. -/
inductive RunsTo : State → State → Prop where
  | stop {s : State} (h : runStops s = true) : RunsTo s s
  | ctl {s u t : State} (h : runStops s = false) (hu : exec .ctl s = .next u) (ht : RunsTo u t) : RunsTo s t

/-- CTL until `runStops`, at most `fuel` times; none where it has not stopped by then. -/
def runCtl : Nat → State → Option State
  | 0, s => if runStops s then some s else none
  | fuel + 1, s =>
    if runStops s then some s
    else
      match exec .ctl s with
      | .next u => runCtl fuel u
      | .fault _ => none
      | .refused _ => none

/-- Enough CTL events for RUN from any state with `cur <= 15`: an ARCHIVE, the 16 NEXT of a WRITE with no eligible slot left or a START,
a SELECT and a whole SETTLE (44 R185), or what is left of the SETTLE under way. -/
def runFuel (s : State) : Nat := 20 + s.tSettle.toNat + s.ctl.settleCtr.toNat

/-- `RUN` (30_encoding R99) as a function. It answers where `RunsTo` leads, from every state with `cur <= 15`, so from every state a run
reaches (Sys2Proof/Laws/Script.lean). -/
def scriptRun (s : State) : Option State := runCtl (runFuel s) s

end Sys2Proof.Machine
end

