-- ==== Sys2Proof/Safety.lean ====
section
/-! DEFINITION. What holds in every state that a run from RESET reaches, in the terms the statements use: the invariants of
10_state R26, 40 R113, 42 R139, R142, 43 R161, 44 R174, 20_memory R73, 47 R253 and what they need to be inductive. -/

namespace Sys2Proof

open Sys2Proof.Machine

/-- The stimulus is one a script may hold: a stimulus word (30_encoding R97), or an access to the status port (47 R264). -/
def scriptStimulus (u : Stimulus) : Bool := decide (u.port = .stimulus) || decide (u.port = .stIdx)

/-- The record triples that occur (95_test_vectors section 2.7, last column). -/
def reachableTriple (r : SlotState) : Bool :=
  match r.presence, r.sizeMatch, r.lastOpResult with
  | .absent, .unknown, .none => true
  | .present, .matching, _ => true
  | .present, .mismatch, .none => true
  | _, _, _ => false

/-- The record is (`absent`, `unknown`, `none`), whatever its lamp. -/
def nothingKnown (r : SlotState) : Bool :=
  decide (r.presence = .absent) && decide (r.sizeMatch = .unknown) && decide (r.lastOpResult = .none)

/-- The record is (`present`, `match`, `k`), whatever its lamp. -/
def matched (r : SlotState) (k : OpResult) : Bool :=
  decide (r.presence = .present) && decide (r.sizeMatch = .matching) && decide (r.lastOpResult = k)

/-- No workflow runs (30_encoding R86). -/
def noWorkflowPhase (p : Phase) : Bool := decide (p = .boot) || decide (p = .idle) || decide (p = .fatal)

/-- The controller works on a target slot of a WRITE that `NEXT` has let in: from its SELECT to the answer that ends it. -/
def onWriteTarget (c : CtlRegs) : Bool :=
  decide (c.wf = .write) && isTarget c.cur &&
    (decide (c.phase = .select) || decide (c.phase = .settle) || decide (c.phase = .write) || decide (c.phase = .verify))

/-- When `act` is 1 (10_state R32): a target's attempt after SELECT, or slot 0 while it is read. -/
def operationInFlight (c : CtlRegs) : Bool := (onWriteTarget c && !decide (c.phase = .select)) || decide (c.phase = .read)

/-- When a reference image is held (10_state R34). -/
def imageHeld (c : CtlRegs) : Bool :=
  decide (c.wf = .write) && (decide (c.phase = .archive) || decide (c.phase = .next) || onWriteTarget c)

/-- REDERIVE is done: every lamp mode is the function of its record (44 R170, R173). -/
abbrev lampsDerived (c : CtlRegs) : Prop :=
  ∀ i : Slot, (recordAt c i).ledMode =
    ledModeOf (recordAt c i).presence (recordAt c i).sizeMatch (recordAt c i).lastOpResult (ctxOf c i)

/-- The controller's registers agree with each other. -/
structure CtlInv (c : CtlRegs) : Prop where
  /-- 40 R113 -/
  cur_le : c.cur.toNat ≤ 15
  /-- 10_state R26 -/
  led : lampsDerived c
  triple : ∀ i : Slot, reachableTriple (recordAt c i) = true
  /-- 10_state R28: a workflow is named exactly while one runs -/
  workflow : c.wf = .none ↔ noWorkflowPhase c.phase = true
  /-- 44 R174 among others -/
  act : c.act = operationInFlight c
  /-- 10_state R34 -/
  image : c.refImage.isSome = imageHeld c
  imageWhole : ∀ img, c.refImage = some img → img.len = img.bytes.length ∧ img.hash = Config.hash img.bytes
  /-- 10_state R31: the global error display is on only between an abort and the next START -/
  gerr : c.gerr = true → c.phase = .idle ∨ c.phase = .start
  runErr : c.runErr = .ok ↔ c.gerr = false
  /-- 60 R277: only these two codes are run-level -/
  runErrCode : c.gerr = true → c.runErr = .noChipDetected ∨ c.runErr = .readFailure
  /-- 44 R172: DETECT in a WRITE is for slot 0; READ and ARCHIVE are slot 0 of a WRITE; WRITE and VERIFY are a target of a WRITE -/
  detectSlot : c.phase = .detect → c.wf = .write → c.cur = 0
  readSlot : c.phase = .read ∨ c.phase = .archive → c.wf = .write ∧ c.cur = 0
  targetSlot : c.phase = .write ∨ c.phase = .verify → onWriteTarget c = true
  /-- 44 R176: nothing is known of slot 0 until its DETECT answer -/
  fresh : c.cur = 0 → c.phase = .select ∨ c.phase = .settle ∨ c.phase = .detect → nothingKnown (recordAt c 0) = true
  reading : c.phase = .read → matched (recordAt c 0) .none = true
  archived : c.phase = .archive → matched (recordAt c 0) .success = true
  /-- 45 R204: no operation result exists during a CHECK -/
  checkClean : c.wf = .check → c.phase ≠ .start → ∀ i : Slot, (recordAt c i).lastOpResult = .none
  /-- 46 R226 -/
  eligible : onWriteTarget c = true → ∀ i : Slot, curSlot c = some i → (recordAt c i).sizeMatch = .matching
  /-- 20_memory R73 (b), 44 R183: the address is the slot worked on, from SELECT to the answer -/
  address : (c.phase = .settle ∨ c.phase = .archive ∨ isWait c.phase = true) → c.muxAddr.toNat = c.cur.toNat
  /-- 10_state R33: past slot 0 a CHECK has its reference size -/
  reference : c.wf = .check → (1 ≤ c.cur.toNat ∨ c.phase = .next) → c.phase ≠ .start → c.refValid = true
  /-- 10_state R36; AddressOutOfRange never happens (40 R113) -/
  fatalCode : c.fatalCode = if c.phase = .fatal then .resourceBusy else .ok

/-- The scheduler's registers (42 R139, R140, R142). -/
structure SchedInv (d : SchedRegs) : Prop where
  cnt_le : ∀ i : Slot, (lampAt d i).cnt.toNat ≤ Config.nSlow - 1
  bootCtr_le : d.bootCtr.toNat ≤ Config.bootLen
  booting : d.bootDone = false → ∀ i : Slot, (lampAt d i) = { cnt := 0, lvl := false }
  booted : d.bootDone = true → d.bootCtr.toNat = Config.bootLen
  visible : d.bootDone = true → ∀ i : Slot, d.ledVisible[i] = (lampAt d i).lvl

/-- One debouncer (43 R161): the count is 0 in the two stable states and 1 to D - 1 in the two others. -/
def debouncerOk (d : Debouncer) : Bool :=
  match d.dbState with
  | .idle => decide (d.dbCnt = 0)
  | .pressedConfirmed => decide (d.dbCnt = 0)
  | .pressedPending => decide (1 ≤ d.dbCnt.toNat ∧ d.dbCnt.toNat ≤ Config.debounceSamples - 1)
  | .released => decide (1 ≤ d.dbCnt.toNat ∧ d.dbCnt.toNat ≤ Config.debounceSamples - 1)

/-- The invariant of the engine under the events of 00_scope R9. -/
structure EngineInv (s : State) : Prop where
  ctl : CtlInv s.ctl
  sched : SchedInv s.sched
  check : debouncerOk s.samp.check = true
  write : debouncerOk s.samp.write = true
  /-- 70 R313: a phase beyond BOOT is reached only after the animation -/
  boot : s.ctl.phase ≠ .boot → s.ctl.phase ≠ .fatal → s.sched.bootDone = true
  /-- 00_scope R7 -/
  settle : 1 ≤ s.tSettle.toNat

/-- The invariant of the machine: the engine's, and every pending stimulus is one a script may hold. -/
structure MachineInv (s : State) : Prop where
  engine : EngineInv s
  script : ∀ u ∈ s.stim, scriptStimulus u = true

/-- A state that a run of the hardware reaches: some events after a RESET, on a machine whose T_SETTLE is at least 1 (00_scope R7, R9). -/
def Reachable (t : State) : Prop :=
  ∃ (s : State) (dip : BitVec 32) (resOk : Bool) (is : List Instr),
    1 ≤ s.tSettle.toNat ∧ (∀ i ∈ is, i.isEvent = true) ∧ runInstrs (.reset dip resOk :: is) s = .next t

/-- The events that leave the startup animation alone: all but RESET (70 R313). -/
def notReset : Instr → Bool
  | .reset _ _ => false
  | _ => true

/-- A button's debouncer over a sequence of samples: its state after them and how many presses they confirmed (43 R151, R157). -/
def debounceRun : Debouncer → List Bool → Debouncer × Nat
  | d, [] => (d, 0)
  | d, r :: rs =>
    let x := debounce d r
    let y := debounceRun x.deb rs
    (y.1, (if x.e then 1 else 0) + y.2)

/-- One slot's turn in a CHECK (45 R200, 44 R185): SELECT, the T_SETTLE + 1 steps of SETTLE, the DETECT answer, NEXT. -/
def checkTurn (tSettle : Nat) (r : Rsp) : List Instr := List.replicate (tSettle + 2) .ctl ++ [.rsp r, .ctl]

/-- A whole CHECK from START with the sixteen DETECT answers (45 R200). -/
def checkWorkflow (tSettle : Nat) (answers : Vector Rsp 16) : List Instr :=
  .ctl :: (answers.toList.map (checkTurn tSettle)).flatten

/-- The answer reports a chip: class `PRES` of 45 R201. -/
abbrev reportsChip (r : Rsp) : Prop := r.status = .ok ∧ r.flag = true

/-- A target slot that a WRITE attempts (00_scope R16, 46 R226). -/
def eligibleSlot (c : CtlRegs) (i : Slot) : Bool := decide (1 ≤ i.val) && decide ((recordAt c i).sizeMatch = .matching)

/-- A target slot's turn in a WRITE (46 R220, 44 R185): SELECT and SETTLE, the WRITE answer, after a successful WRITE the VERIFY answer,
NEXT; the NEXT alone where the slot is not eligible. -/
def writeTurn (tSettle : Nat) (eligible : Bool) (w v : Rsp) : List Instr :=
  if eligible then List.replicate (tSettle + 2) .ctl ++ (if w.status = .ok then [.rsp w, .rsp v] else [.rsp w]) ++ [.ctl] else [.ctl]

/-- A whole WRITE from START (46 R220): slot 0's DETECT and READ answers `d` and `r`, then for each slot the answers to its WRITE and its
VERIFY, taken from `w` and `v` where the slot is attempted. -/
def writeWorkflow (tSettle : Nat) (c : CtlRegs) (d r : Rsp) (w v : Vector Rsp 16) : List Instr :=
  List.replicate (tSettle + 3) .ctl ++ [.rsp d, .rsp r, .ctl, .ctl] ++
    ((List.finRange 16).drop 1).flatMap fun i => writeTurn tSettle (eligibleSlot c i) w[i] v[i]

/-- An answer the Controller took: the wait phase it ended, the slot worked on, and the answer. -/
structure Taken where
  phase : Phase
  slot : Nat
  rsp : Rsp
deriving DecidableEq, Repr

/-- What an event takes in a state: an RSP in a wait phase is taken, any other is ignored (47 R253, R254). -/
def takenBy (i : Instr) (s : State) : List Taken :=
  match i with
  | .rsp r => if outstanding s then [{ phase := s.ctl.phase, slot := s.ctl.cur.toNat, rsp := r }] else []
  | _ => []

/-- How a workflow ended: the answers taken, oldest first, how often `arch_req` was emitted, and the state in IDLE. -/
structure WorkflowEnd where
  taken : List Taken
  stores : Nat
  last : State
deriving DecidableEq, Repr

/-- A workflow to its end, whatever events are mixed in: the events run one after the other and the last of them reaches IDLE for the
first time; none where they end before IDLE or go on after it. -/
def runWorkflow : List Instr → State → Option WorkflowEnd
  | [], s => if s.ctl.phase = .idle then some { taken := [], stores := 0, last := s } else none
  | i :: is, s =>
    if s.ctl.phase = .idle then none
    else
      match exec i s with
      | .next u =>
        (runWorkflow is u).map fun e =>
          { e with taken := takenBy i s ++ e.taken, stores := (if u.out.archReq then 1 else 0) + e.stores }
      | .fault _ => none
      | .refused _ => none

/-- The answers taken for slot `i`. -/
def WorkflowEnd.takenAt (e : WorkflowEnd) (i : Slot) : List Taken := e.taken.filter fun a => a.slot = i.val

/-- `e` is the end of the workflow `w` run from START by some events, RESET aside: TICK, SAMPLE, waiting CTL events and stray answers may
stand between the others. -/
def workflowEnds (w : Workflow) (s : State) (e : WorkflowEnd) : Prop :=
  s.ctl.phase = .start ∧ s.ctl.wf = w ∧ ∃ es, (∀ i ∈ es, i.isEvent = true ∧ notReset i = true) ∧ runWorkflow es s = some e

/-- What 45 R206 says of a target's record after a CHECK. -/
def checkedRecord (r : SlotState) : Prop :=
  (r.ledMode = .slowBlink ↔ r.presence = .present ∧ r.sizeMatch = .matching) ∧ (r.ledMode = .off ↔ r.presence = .absent) ∧
  (r.ledMode = .fastBlink ↔ r.presence = .present ∧ r.sizeMatch = .mismatch) ∧ r.lastOpResult = .none

/-- Ranges that every operation keeps, an operation by itself too (40 R113, 42 R139, R140, 43 R161). -/
structure Ranges (s : State) : Prop where
  cur_le : s.ctl.cur.toNat ≤ 15
  cnt_le : ∀ i : Slot, (lampAt s.sched i).cnt.toNat ≤ Config.nSlow - 1
  bootCtr_le : s.sched.bootCtr.toNat ≤ Config.bootLen
  check_le : s.samp.check.dbCnt.toNat ≤ Config.debounceSamples - 1
  write_le : s.samp.write.dbCnt.toNat ≤ Config.debounceSamples - 1

/-- The engine's registers: all of the state but the pins, the host's side and the model's own fields. -/
def sameRegisters (s t : State) : Prop :=
  t.ctl = s.ctl ∧ t.sched = s.sched ∧ t.samp = s.samp ∧ t.speedCfg = s.speedCfg

/-- The host's side of the machine, which no operation of the engine writes. -/
def sameHost (s t : State) : Prop := t.stim = s.stim ∧ t.tSettle = s.tSettle ∧ t.stIdx = s.stIdx

/-! ### What an operation leaves as it was -/

/-- The three fields of a record that REDERIVE does not write are the same. -/
def sameStatus (r r' : SlotState) : Prop :=
  r'.presence = r.presence ∧ r'.sizeMatch = r.sizeMatch ∧ r'.lastOpResult = r.lastOpResult

/-- Every record but slot `i`'s keeps those three fields. -/
def otherStatus (c c' : CtlRegs) (i : Slot) : Prop := ∀ j : Slot, j ≠ i → sameStatus (recordAt c j) (recordAt c' j)

/-- The three fields of a record. -/
def statusIs (r : SlotState) (p : Presence) (m : SizeMatch) (k : OpResult) : Prop :=
  r.presence = p ∧ r.sizeMatch = m ∧ r.lastOpResult = k

/-- The pins while a command is issued (47 R250). -/
def requestPins (cmd : FaCmd) (image : Option RefImage) : OutPins :=
  { OutPins.quiet with faReq := true, faCmd := cmd, faImage := image }

/-- `t` is `s` but for the controller's registers; the pins are `o` (frame of CTL and RSP, 10_state R46). -/
def onlyCtl (s t : State) (o : OutPins) : Prop := t = { s with ctl := t.ctl, out := o }

/-- `ABORT(code)` was the last thing done to the registers `c` (44 R182), the record array aside. -/
def aborted (c c' : CtlRegs) (code : ErrCode) : Prop :=
  c' = { c with slot := c'.slot, gerr := true, runErr := code, act := false, refImage := none, wf := .none, phase := .idle } ∧
  ∀ i : Slot, (recordAt c' i).ledMode = .fastBlink

/-- `t` is `s` but for slot `i`'s phase counter, now `p`. -/
def onlyLamp (s t : State) (i : Slot) (p : LampPhase) : Prop :=
  lampAt t.sched i = p ∧ (∀ j : Slot, j ≠ i → lampAt t.sched j = lampAt s.sched j) ∧
  t = { s with sched := { s.sched with lamp := t.sched.lamp }, out := OutPins.quiet }

/-- `t` is `s` but for button `b`'s debouncer, now `d`, and its bit of `evt`, now `e`. -/
def onlyDebouncer (s t : State) (b : Button) (d : Debouncer) (e : Bool) : Prop :=
  match b with
  | .check => t = { s with samp := { s.samp with check := d }, out := { OutPins.quiet with evtCheck := e } }
  | .write => t = { s with samp := { s.samp with write := d }, out := { OutPins.quiet with evtWrite := e } }

/-- The record a target's DETECT answer leaves (45 R204). -/
def targetRecord (r : Rsp) (refSize : ChipSize) : SlotState :=
  if r.status = .ok ∧ r.flag = true then
    if r.size = refSize then { presence := .present, sizeMatch := .matching, lastOpResult := .none, ledMode := .slowBlink }
    else { presence := .present, sizeMatch := .mismatch, lastOpResult := .none, ledMode := .fastBlink }
  else if r.status = .noChipDetected ∨ r.status = .ok then
    { presence := .absent, sizeMatch := .unknown, lastOpResult := .none, ledMode := .off }
  else { presence := .present, sizeMatch := .mismatch, lastOpResult := .none, ledMode := .fastBlink }

/-- The 4-bit phase code `c` is the operation `f`, whatever controller event is given beside it (30_encoding R86, R94; log entry 9). -/
def phaseCode (c : StimWord) (f : CtlEvent → Instr) : Prop :=
  ∀ e : CtlEvent, decode { port := .phase, code := c, arg := ctlEventWord e, image := ctlEventImage e } = .ok (f e)

end Sys2Proof
end

