-- ==== Sys2Proof/Certificates/Slice0/Obligations.lean ====
section
/-! DEFINITION. The statements for the provers, in the order of OBLIGATIONS.json. Where a statement rests on a choice of the model its
docstring says so and names the log entry. -/

open Sys2Proof Sys2Proof.Machine

/-! ### Encoding -/

/-- Decoding the encoding of a well-formed instruction gives it back, every operand at every value (30_encoding R84 to R98). The
operands beside the code are the model's (log entries 9, 10). -/
def Obligations.EncodeThenDecode : Prop := ∀ i : Instr, i.wellFormed = true → decode (encode i) = .ok i

/-- Every stimulus the decoder takes is well-formed and is the encoding of what it decodes to: no two stimuli share a meaning
(30_encoding R94, R96). The operands beside the code are the model's (log entries 9, 10). -/
def Obligations.DecodeThenEncode : Prop :=
  ∀ (u : Stimulus) (i : Instr), decode u = .ok i → i.wellFormed = true ∧ encode i = u

/-- The seven example words of 30_encoding R98. -/
def Obligations.SpecExampleWordsDecode : Prop :=
  decode { port := .stimulus, code := 0x0000000000 } = .ok .ctl ∧
  decode { port := .stimulus, code := 0x1000000000 } = .ok .tick ∧
  decode { port := .stimulus, code := 0x2100000000 } = .ok (.sample true false) ∧
  decode { port := .stimulus, code := 0x2200000000 } = .ok (.sample false true) ∧
  decode { port := .stimulus, code := 0x3800200000 } =
    .ok (.rsp { status := .ok, flag := true, size := 2097152, image := none }) ∧
  decode { port := .stimulus, code := 0x3100000000 } =
    .ok (.rsp { status := .noChipDetected, flag := false, size := 0, image := none }) ∧
  decode { port := .stimulus, code := 0xF100000000 } = .ok (.reset 0 true)

/-- Reserved stimulus kinds, phase codes, lamp modes and commands, and non-zero bits in a field that a word's table gives as 0, are
refused by name; a step whose stimulus word is such a word refuses (30_encoding R95, R98; 93_implementation_defined section 1). -/
def Obligations.ReservedCodesAreRefused : Prop :=
  ∀ (s : State) (w arg : StimWord) (image : Option (List Byte)),
    (4 ≤ (w.extractLsb' 36 4).toNat → (w.extractLsb' 36 4).toNat ≤ 14 →
      step (s.withNext { port := .stimulus, code := w, image := image }) = .refused (.illFormed .reservedKind)) ∧
    ((w.extractLsb' 36 4).toNat ≤ 1 → w.extractLsb' 0 36 ≠ 0 →
      step (s.withNext { port := .stimulus, code := w }) = .refused (.illFormed .nonZeroField)) ∧
    ((w.extractLsb' 36 4).toNat = 2 → (w.extractLsb' 34 2 ≠ 0 ∨ w.extractLsb' 0 32 ≠ 0) →
      step (s.withNext { port := .stimulus, code := w }) = .refused (.illFormed .nonZeroField)) ∧
    ((w.extractLsb' 36 4).toNat = 15 → w.extractLsb' 33 3 ≠ 0 →
      step (s.withNext { port := .stimulus, code := w }) = .refused (.illFormed .nonZeroField)) ∧
    (12 ≤ w.toNat → w.toNat ≤ 15 → decode { port := .phase, code := w, arg := arg, image := image } = .error .reservedPhase) ∧
    (5 ≤ w.toNat → w.toNat ≤ 7 → decode { port := .ledMode, code := w, arg := arg } = .error .reservedLedMode) ∧
    ((w.toNat = 0 ∨ (5 ≤ w.toNat ∧ w.toNat ≤ 7)) → decode { port := .faCmd, code := w } = .error .reservedCommand)

/-- The packed record of the status port: its four fields stand where the table puts them, packing loses nothing, no two words are one
record, and the rule's five examples hold (30_encoding R85). -/
def Obligations.PackedRecordFormat : Prop :=
  (∀ r : SlotState,
    (packRecord r).extractLsb' 8 1 = r.presence.code ∧ (packRecord r).extractLsb' 6 2 = r.sizeMatch.code ∧
    (packRecord r).extractLsb' 3 3 = r.lastOpResult.code ∧ (packRecord r).extractLsb' 0 3 = r.ledMode.code ∧
    unpackRecord (packRecord r) = some r) ∧
  (∀ (w : BitVec 9) (r : SlotState), unpackRecord w = some r → packRecord r = w) ∧
  packRecord { presence := .absent, sizeMatch := .unknown, lastOpResult := .none, ledMode := .off } = 0x000 ∧
  packRecord { presence := .present, sizeMatch := .matching, lastOpResult := .none, ledMode := .slowBlink } = 0x142 ∧
  packRecord { presence := .present, sizeMatch := .mismatch, lastOpResult := .none, ledMode := .fastBlink } = 0x183 ∧
  packRecord { presence := .present, sizeMatch := .matching, lastOpResult := .success, ledMode := .on } = 0x149 ∧
  packRecord { presence := .present, sizeMatch := .matching, lastOpResult := .verifyFailed, ledMode := .fastBlink } = 0x153

/-! ### The step -/

/-- A step takes the next stimulus off the queue and is `exec` of what it decodes to; an ill-formed one is refused by its name; with
nothing pending the step is a CTL, as a cycle with no strobe is. The queue is the model's (log entries 6, 7). -/
def Obligations.StepRunsDecodedStimulus : Prop :=
  ∀ s : State,
    (∀ (u : Stimulus) (rest : List Stimulus) (i : Instr), s.stim = u :: rest → decode u = .ok i →
      step s = exec i { s with stim := rest }) ∧
    (∀ (u : Stimulus) (rest : List Stimulus) (e : DecodeError), s.stim = u :: rest → decode u = .error e →
      step s = .refused (.illFormed e)) ∧
    (s.stim = [] → step s = exec .ctl s)

/-- Every one of the 34 operations completes in every state, and no event raises AddressOutOfRange in a state that meets the engine's
invariant (60 R271, 40 R113). Where R172 lists no case for a DETECT answer, with `cur` 0 and no workflow, it does nothing (log entry 13).
Where `cur` is above 15 and names no record, what the rules do besides writing it or reading it still happens, which is the model's choice
(log entry 12). That the operations run by themselves is the model's (log entry 8). -/
def Obligations.EveryOperationCompletes : Prop :=
  (∀ (i : Instr) (s : State), ∃ t, exec i s = .next t) ∧
  (∀ (s t : State) (i : Instr), EngineInv s → i.isEvent = true → exec i s = .next t → t.ctl.fatalCode ≠ .addressOutOfRange) ∧
  (∀ (s : State) (r : Rsp), s.ctl.cur = 0 → s.ctl.wf = .none →
    exec (.phDetect (.rsp r)) s = .next s.quiet ∧ (s.ctl.phase = .detect → exec (.rsp r) s = .next s.quiet)) ∧
  (∀ (s : State) (r : Rsp), s.ctl.phase ≠ .fatal → 16 ≤ s.ctl.cur.toNat →
    exec (.phDetect (.rsp r)) s = .next { s with ctl := { rederive s.ctl with phase := .next }, out := OutPins.quiet } ∧
    exec (.phVerify (.rsp r)) s =
      .next { s with ctl := { rederive { s.ctl with act := false } with phase := .next }, out := OutPins.quiet } ∧
    (r.status ≠ .ok → exec (.phWrite (.rsp r)) s = exec (.phVerify (.rsp r)) s) ∧
    ∃ t, exec (.phNext .ctl) s = .next t ∧
      t = { s with ctl := { s.ctl with cur := t.ctl.cur, phase := t.ctl.phase }, out := OutPins.quiet } ∧
      (t.ctl.phase = .select ∨ (s.ctl.wf ≠ .check ∧ t.ctl.phase = .next)) ∧
      (s.ctl.cur.toNat < 31 → t.ctl.cur.toNat = s.ctl.cur.toNat + 1))

/-! ### Reset and invariants -/

/-- RESET in every state: every register takes its reset value, `speed_cfg` takes `dip`, and `res_ok` decides between BOOT and FATAL
with ResourceBusy (70 R310, 10_state R45). The host's side of the machine and the model's own counter stay. -/
def Obligations.ResetResult : Prop :=
  (∀ (dip : BitVec 32) (resOk : Bool),
    decode { port := .stimulus, code := 0b1111#4 ++ 0#3 ++ BitVec.ofBool resOk ++ dip } = .ok (.reset dip resOk)) ∧
  ∀ (s : State) (dip : BitVec 32) (resOk : Bool), ∃ t, exec (.reset dip resOk) s = .next t ∧
    (∀ i : Slot, recordAt t.ctl i = { presence := .absent, sizeMatch := .unknown, lastOpResult := .none, ledMode := .off }) ∧
    t.ctl = { slot := t.ctl.slot, phase := if resOk then .boot else .fatal, wf := .none, cur := 0, settleCtr := 0, gerr := false,
              act := false, refValid := false, refSize := 0, refImage := none, runErr := .ok,
              fatalCode := if resOk then .ok else .resourceBusy, muxAddr := 0 } ∧
    (∀ i : Slot, lampAt t.sched i = { cnt := 0, lvl := false }) ∧
    t.sched = { lamp := t.sched.lamp, bootCtr := 0, bootDone := false, ledVisible := 0 } ∧
    t.samp = { check := { dbState := .idle, dbCnt := 0 }, write := { dbState := .idle, dbCnt := 0 } } ∧
    t.speedCfg = dip ∧ t.out = OutPins.quiet ∧ sameHost s t ∧ t.freeCtr = s.freeCtr

/-- The reset state meets the machine's invariant. (`dip` = 0, `res_ok` = 1 and T_SETTLE are the model's there: log entries 1, 2.) -/
def Obligations.ResetStateMeetsInvariant : Prop := MachineInv State.reset

/-- Every step from a state that meets the machine's invariant leads to one that does, whatever the adapter answers and the buttons do. -/
def Obligations.StepKeepsInvariant : Prop := ∀ s t : State, MachineInv s → step s = .next t → MachineInv t

/-- The ranges of `cur`, `cnt`, `boot_ctr` and `db_cnt` are kept by all 34 operations, one run by itself too (log entry 8). -/
def Obligations.OperationsKeepRanges : Prop := ∀ (i : Instr) (s t : State), Ranges s → exec i s = .next t → Ranges t

/-- 10_state R26. -/
def Obligations.LampModeIsFunctionOfStatus : Prop :=
  ∀ (t : State) (i : Slot), Reachable t →
    (recordAt t.ctl i).ledMode =
      ledModeOf (recordAt t.ctl i).presence (recordAt t.ctl i).sizeMatch (recordAt t.ctl i).lastOpResult
        (if t.ctl.gerr = true then .gerr else if t.ctl.act = true ∧ i.val = t.ctl.cur.toNat then .act else .norm)

/-- 40 R113: `select` runs only in phase SELECT, with `cur`, and `cur` is at most 15, so AddressOutOfRange is never raised. -/
def Obligations.AddressErrorIsUnreachable : Prop :=
  ∀ t : State, Reachable t →
    t.ctl.cur.toNat ≤ 15 ∧ t.ctl.fatalCode ≠ .addressOutOfRange ∧
    ∀ (i : Instr) (u : State), i.isEvent = true → notReset i = true → exec i t = .next u →
      u.ctl.fatalCode ≠ .addressOutOfRange ∧
      (u.ctl.muxAddr ≠ t.ctl.muxAddr → i = .ctl ∧ t.ctl.phase = .select ∧ u.ctl.muxAddr.toNat = t.ctl.cur.toNat)

/-- 42 R139, 43 R161. -/
def Obligations.CounterRanges : Prop :=
  ∀ t : State, Reachable t →
    (∀ i : Slot, (lampAt t.sched i).cnt.toNat ≤ 24 ∧ (lampAt t.sched i).cnt.toNat + 1 < 2 ^ 8) ∧
    t.samp.check.dbCnt.toNat ≤ 2 ∧ t.samp.write.dbCnt.toNat ≤ 2

/-- 42 R142: after a TICK of the normal branch the lamps show the lamp bits, and no event but TICK and RESET changes either. -/
def Obligations.LampsShowLampBits : Prop :=
  ∀ s t : State,
    (s.sched.bootDone = true → s.ctl.phase ≠ .fatal → exec .tick s = .next t →
      ∀ i : Slot, t.sched.ledVisible[i] = (lampAt t.sched i).lvl) ∧
    (∀ i : Instr, i.isEvent = true → i ≠ .tick → notReset i = true → exec i s = .next t →
      t.sched.ledVisible = s.sched.ledVisible ∧ ∀ j : Slot, (lampAt t.sched j).lvl = (lampAt s.sched j).lvl)

/-- 46 R234: exactly the slot in flight shows `dataActivity`: a target from its SELECT to the answer that ends its attempt, slot 0
from its DETECT answer to its READ answer. -/
def Obligations.DataActivityIsSlotInFlight : Prop :=
  ∀ (t : State) (i : Slot), Reachable t →
    ((recordAt t.ctl i).ledMode = .dataActivity ↔
      i.val = t.ctl.cur.toNat ∧
      ((t.ctl.wf = .write ∧ 1 ≤ i.val ∧ (t.ctl.phase = .settle ∨ t.ctl.phase = .write ∨ t.ctl.phase = .verify)) ∨
       (i.val = 0 ∧ t.ctl.phase = .read)))

/-! ### Agents -/

/-- 10_state R46: what each agent writes, the hand-off in IDLE where CTL and RSP write nothing, and the three cross-agent reads: two
states that agree on what an agent owns and on what it may read are changed alike. -/
def Obligations.SingleWriterDiscipline : Prop :=
  ∀ s : State,
    (∀ t, exec .tick s = .next t → t.ctl = s.ctl ∧ t.samp = s.samp ∧ t.speedCfg = s.speedCfg) ∧
    (∀ rC rW t, exec (.sample rC rW) s = .next t →
      t.sched = s.sched ∧ t.speedCfg = s.speedCfg ∧ t.ctl = { s.ctl with phase := t.ctl.phase, wf := t.ctl.wf } ∧
      (s.ctl.phase ≠ .idle → t.ctl = s.ctl)) ∧
    (∀ t, exec .ctl s = .next t → t.sched = s.sched ∧ t.samp = s.samp ∧ t.speedCfg = s.speedCfg) ∧
    (∀ r t, exec (.rsp r) s = .next t → t.sched = s.sched ∧ t.samp = s.samp ∧ t.speedCfg = s.speedCfg) ∧
    (s.ctl.phase = .idle → exec .ctl s = .next s.quiet ∧ ∀ r, exec (.rsp r) s = .next s.quiet) ∧
    (∀ s' t t', s.sched = s'.sched → (∀ i : Slot, (recordAt s.ctl i).ledMode = (recordAt s'.ctl i).ledMode) →
      (s.ctl.phase = .fatal ↔ s'.ctl.phase = .fatal) → exec .tick s = .next t → exec .tick s' = .next t' → t.sched = t'.sched) ∧
    (∀ s' t t' rC rW, s.samp = s'.samp → s.ctl.phase = s'.ctl.phase → exec (.sample rC rW) s = .next t →
      exec (.sample rC rW) s' = .next t' →
      t.samp = t'.samp ∧ t.ctl.phase = t'.ctl.phase ∧ (t.ctl.phase ≠ s.ctl.phase → t.ctl.wf = t'.ctl.wf)) ∧
    (∀ s' t t', s.ctl = s'.ctl → s.sched.bootDone = s'.sched.bootDone → s.tSettle = s'.tSettle →
      exec .ctl s = .next t → exec .ctl s' = .next t' → t.ctl = t'.ctl ∧ t.out = t'.out) ∧
    (∀ s' t t' r, s.ctl = s'.ctl → s.freeCtr = s'.freeCtr →
      exec (.rsp r) s = .next t → exec (.rsp r) s' = .next t' → t.ctl = t'.ctl ∧ t.out = t'.out)

/-- 60 R285: a SAMPLE that confirms a press, and the CTL that opens IDLE at the end of a workflow (a) or of BOOT (b): with the CTL first
the press is accepted, with the SAMPLE first it is dropped. -/
def Obligations.OrderOfSampleAndController : Prop :=
  ∀ (s : State) (rC rW : Bool),
    ((debounce s.samp.check rC).e = true ∨ (debounce s.samp.write rW).e = true) →
    ((s.ctl.phase = .next ∧ s.ctl.cur = 15) ∨ (s.ctl.phase = .boot ∧ s.sched.bootDone = true)) →
    (∃ t, runInstrs [.ctl, .sample rC rW] s = .next t ∧ t.ctl.phase = .start ∧
      t.ctl.wf = if (debounce s.samp.check rC).e = true then .check else .write) ∧
    (∃ t, runInstrs [.sample rC rW, .ctl] s = .next t ∧ t.ctl.phase = .idle ∧ (s.ctl.phase = .next → t.ctl.wf = .none))

/-- In FATAL nothing but RESET and a read of the status port does anything; the pulses end (60 R280). That an operation run by itself
does nothing there either is the model's (log entry 11). -/
def Obligations.FatalAbsorbs : Prop :=
  ∀ (i : Instr) (s : State), s.ctl.phase = .fatal → notReset i = true → (∀ k, i ≠ .stat k) → exec i s = .next s.quiet

/-- FATAL is entered only by RESET with a line unavailable and by a `select` beyond slot 15, and left by RESET only (60 R280, R287).
It speaks of all 34 operations; that SELECT, PH.SELECT and the others run by themselves is the model's (log entry 8). -/
def Obligations.FatalEnteredAndLeft : Prop :=
  ∀ (i : Instr) (s t : State), exec i s = .next t →
    (t.ctl.phase = .fatal → s.ctl.phase ≠ .fatal →
      (∃ dip, i = .reset dip false) ∨ (∃ n : BitVec 5, i = .select n ∧ 15 < n.toNat) ∨
      (15 < s.ctl.cur.toNat ∧ (i = .phSelect .ctl ∨ (i = .ctl ∧ s.ctl.phase = .select)))) ∧
    (s.ctl.phase = .fatal → t.ctl.phase ≠ .fatal → ∃ dip, i = .reset dip true)

/-! ### Lamps -/

/-- TICK after the animation: all 16 phase counters by their lamp modes, and the pattern of the new lamp bits, in every phase but FATAL
(42 R130, R131, R133 to R137). Nothing else changes. -/
def Obligations.TickResult : Prop :=
  ∀ s : State, s.ctl.phase ≠ .fatal → s.sched.bootDone = true → ∃ t, exec .tick s = .next t ∧
    (∀ i : Slot, lampAt t.sched i =
      match (recordAt s.ctl i).ledMode with
      | .off => { cnt := 0, lvl := false }
      | .on => { cnt := 0, lvl := true }
      | .slowBlink =>
        if (lampAt s.sched i).cnt.toNat + 1 ≥ 25 then { cnt := 0, lvl := !(lampAt s.sched i).lvl }
        else { cnt := (lampAt s.sched i).cnt + 1, lvl := (lampAt s.sched i).lvl }
      | .fastBlink =>
        if (lampAt s.sched i).cnt.toNat + 1 ≥ 5 then { cnt := 0, lvl := !(lampAt s.sched i).lvl }
        else { cnt := (lampAt s.sched i).cnt + 1, lvl := (lampAt s.sched i).lvl }
      | .dataActivity => { cnt := 0, lvl := !(lampAt s.sched i).lvl }) ∧
    (∀ i : Slot, t.sched.ledVisible[i] = (lampAt t.sched i).lvl) ∧
    t = { s with sched := { s.sched with lamp := t.sched.lamp, ledVisible := t.sched.ledVisible },
                 out := { OutPins.quiet with latch := true } }

/-- TICK during the startup animation (42 R140). -/
def Obligations.BootTickResult : Prop :=
  ∀ s : State, s.ctl.phase ≠ .fatal → s.sched.bootDone = false →
    (s.sched.bootCtr.toNat < 16 → exec .tick s = .next
      { s with sched := { s.sched with ledVisible := 1#16 <<< s.sched.bootCtr.toNat, bootCtr := s.sched.bootCtr + 1 },
               out := { OutPins.quiet with latch := true } }) ∧
    (s.sched.bootCtr.toNat = 16 → exec .tick s = .next
      { s with sched := { s.sched with ledVisible := 0, bootDone := true }, out := { OutPins.quiet with latch := true } })

/-- The startup sequence from any RESET, with any CTL, SAMPLE and RSP events mixed among the ticks: until the 17th tick the engine stays
in BOOT and the k-th tick lights the k-th lamp alone; the pseudo-operation BOOT (17 ticks and one CTL) ends in IDLE, all lamps dark
(70 R313, 42 R140, 44 R175). -/
def Obligations.StartupSequence : Prop :=
  (∀ (s t : State) (dip : BitVec 32) (es : List Instr), (∀ i ∈ es, i.isEvent = true ∧ notReset i = true) →
    es.count .tick ≤ 16 → runInstrs (.reset dip true :: es) s = .next t →
    t.ctl.phase = .boot ∧ t.sched.bootDone = false ∧ t.sched.bootCtr.toNat = es.count .tick ∧
    t.sched.ledVisible = if es.count .tick = 0 then 0 else 1#16 <<< (es.count .tick - 1)) ∧
  (∀ (s : State) (dip : BitVec 32), ∃ t, runInstrs (.reset dip true :: scriptBoot) s = .next t ∧
    t.ctl.phase = .idle ∧ t.sched.bootDone = true ∧ t.sched.ledVisible = 0)

/-- BL.OFF, BL.ON and BL.DATA by code and effect on one slot, and nothing else changes (42 R133, R134, R137). That the operation runs by
itself, on a slot given beside the code, is the model's (log entries 8, 9). -/
def Obligations.SteadyBlinkOperations : Prop :=
  ∀ (s : State) (i : Slot),
    decode { port := .ledMode, code := 0b000, arg := BitVec.ofNat 40 i.val } = .ok (.blOff i) ∧
    decode { port := .ledMode, code := 0b001, arg := BitVec.ofNat 40 i.val } = .ok (.blOn i) ∧
    decode { port := .ledMode, code := 0b100, arg := BitVec.ofNat 40 i.val } = .ok (.blData i) ∧
    (s.ctl.phase ≠ .fatal →
      (∃ t, exec (.blOff i) s = .next t ∧ onlyLamp s t i { cnt := 0, lvl := false }) ∧
      (∃ t, exec (.blOn i) s = .next t ∧ onlyLamp s t i { cnt := 0, lvl := true }) ∧
      (∃ t, exec (.blData i) s = .next t ∧ onlyLamp s t i { cnt := 0, lvl := !(lampAt s.sched i).lvl }))

/-- BL.SLOW and BL.FAST by code and effect on one slot: the bit toggles when `cnt + 1`, as a natural number, reaches 25 or 5 (42 R132,
R135, R136). That the operation runs by itself, on a slot given beside the code, is the model's (log entries 8, 9). -/
def Obligations.BlinkingOperations : Prop :=
  ∀ (s : State) (i : Slot),
    decode { port := .ledMode, code := 0b010, arg := BitVec.ofNat 40 i.val } = .ok (.blSlow i) ∧
    decode { port := .ledMode, code := 0b011, arg := BitVec.ofNat 40 i.val } = .ok (.blFast i) ∧
    (s.ctl.phase ≠ .fatal →
      (∃ t, exec (.blSlow i) s = .next t ∧ onlyLamp s t i
        (if (lampAt s.sched i).cnt.toNat + 1 ≥ 25 then { cnt := 0, lvl := !(lampAt s.sched i).lvl }
         else { cnt := (lampAt s.sched i).cnt + 1, lvl := (lampAt s.sched i).lvl })) ∧
      (∃ t, exec (.blFast i) s = .next t ∧ onlyLamp s t i
        (if (lampAt s.sched i).cnt.toNat + 1 ≥ 5 then { cnt := 0, lvl := !(lampAt s.sched i).lvl }
         else { cnt := (lampAt s.sched i).cnt + 1, lvl := (lampAt s.sched i).lvl })))

/-- A TICK after the animation is one lamp-mode operation on each slot, selected by its `ledMode`, then one RENDER (42 R130, R132;
30_encoding R80). That the BL operations and RENDER run by themselves is the model's (log entry 8). -/
def Obligations.TickIsItsOperations : Prop :=
  ∀ s t : State, s.ctl.phase ≠ .fatal → s.sched.bootDone = true → exec .tick s = .next t →
    runInstrs ((List.finRange 16).map (fun i => ledModeInstr i (recordAt s.ctl i).ledMode) ++ [.render t.sched.ledVisible]) s = .next t

/-- Ticks between toggles: a slot left in one mode for k ticks from `cnt` = 0 has toggled k / 25 times in `slowBlink`, k / 5 times in
`fastBlink` and k times in `dataActivity` (42 R135, R136, R137, R141). -/
def Obligations.BlinkPeriods : Prop :=
  ∀ (s t : State) (i : Slot) (k : Nat), s.ctl.phase ≠ .fatal → s.sched.bootDone = true → (lampAt s.sched i).cnt = 0 →
    runInstrs (scriptTicks k) s = .next t →
    ((recordAt s.ctl i).ledMode = .slowBlink →
      (lampAt t.sched i).cnt.toNat = k % 25 ∧ (lampAt t.sched i).lvl = ((lampAt s.sched i).lvl != decide (k / 25 % 2 = 1))) ∧
    ((recordAt s.ctl i).ledMode = .fastBlink →
      (lampAt t.sched i).cnt.toNat = k % 5 ∧ (lampAt t.sched i).lvl = ((lampAt s.sched i).lvl != decide (k / 5 % 2 = 1))) ∧
    ((recordAt s.ctl i).ledMode = .dataActivity →
      (lampAt t.sched i).cnt = 0 ∧ (lampAt t.sched i).lvl = ((lampAt s.sched i).lvl != decide (k % 2 = 1)))

/-- RENDER: the whole latch becomes the pattern, with its latch pulse, and nothing else changes; rendering what is shown changes no
register (41 R120, R121, R124). That RENDER runs by itself, its pattern beside the strobe, is the model's (log entries 8, 9). -/
def Obligations.RenderResult : Prop :=
  ∀ (s : State) (p : Pattern), s.ctl.phase ≠ .fatal →
    ∃ t, exec (.render p) s = .next t ∧
      t = { s with sched := { s.sched with ledVisible := p }, out := { OutPins.quiet with latch := true } } ∧
      (∀ i : Slot, t.sched.ledVisible[i] = p[i]) ∧ (s.sched.ledVisible = p → sameRegisters s t)

/-- Which event emits what: the latch pulse is every TICK outside FATAL, STORE is the CTL of ARCHIVE, a command is the last CTL of SETTLE,
the DETECT answer that finds slot 0 in a WRITE or the OK answer to a WRITE; the command is named after the wait phase entered, WRITE
and VERIFY carry `ref_image`, and without a request the command pins are 000 (47 R250, R252, R259; 41 R123). -/
def Obligations.OutputEventsOnlyThere : Prop :=
  ∀ (i : Instr) (s t : State), i.isEvent = true → exec i s = .next t →
    (t.out.latch = true ↔ i = .tick ∧ s.ctl.phase ≠ .fatal) ∧
    (t.out.archReq = true ↔ i = .ctl ∧ s.ctl.phase = .archive) ∧
    (t.out.faReq = true ↔
      (i = .ctl ∧ s.ctl.phase = .settle ∧ s.ctl.settleCtr = 0) ∨
      (∃ r, i = .rsp r ∧ r.status = .ok ∧
        (s.ctl.phase = .write ∨ (s.ctl.phase = .detect ∧ r.flag = true ∧ s.ctl.cur = 0 ∧ s.ctl.wf = .write)))) ∧
    (t.out.faReq = false → t.out.faCmd = .noCmd ∧ t.out.faImage = none) ∧
    (t.out.faReq = true →
      (t.ctl.phase = .detect ∧ t.out.faCmd = .detect ∧ t.out.faImage = none) ∨
      (t.ctl.phase = .read ∧ t.out.faCmd = .read ∧ t.out.faImage = none) ∨
      (t.ctl.phase = .write ∧ t.out.faCmd = .write ∧ t.out.faImage = t.ctl.refImage) ∨
      (t.ctl.phase = .verify ∧ t.out.faCmd = .verify ∧ t.out.faImage = t.ctl.refImage))

/-! ### Buttons -/

/-- The four debounce operations on either button and either level, by their tables with D = 3, and nothing else changes (43 R152 to R155,
R156). That the operation runs by itself, on a button given beside the code, is the model's (log entries 8, 9). -/
def Obligations.DebounceOperations : Prop :=
  ∀ (s : State) (b : Button), s.ctl.phase ≠ .fatal →
    (∃ t, exec (.dbIdle b false) s = .next t ∧ onlyDebouncer s t b { dbState := .idle, dbCnt := 0 } false) ∧
    (∃ t, exec (.dbIdle b true) s = .next t ∧ onlyDebouncer s t b { dbState := .pressedPending, dbCnt := 1 } false) ∧
    (∃ t, exec (.dbPend b false) s = .next t ∧ onlyDebouncer s t b { dbState := .idle, dbCnt := 0 } false) ∧
    (∃ t, exec (.dbPend b true) s = .next t ∧
      if (debouncerOf s.samp b).dbCnt.toNat + 1 ≥ 3 then onlyDebouncer s t b { dbState := .pressedConfirmed, dbCnt := 0 } true
      else onlyDebouncer s t b { dbState := .pressedPending, dbCnt := (debouncerOf s.samp b).dbCnt + 1 } false) ∧
    (∃ t, exec (.dbConf b true) s = .next t ∧ onlyDebouncer s t b { dbState := .pressedConfirmed, dbCnt := 0 } false) ∧
    (∃ t, exec (.dbConf b false) s = .next t ∧ onlyDebouncer s t b { dbState := .released, dbCnt := 1 } false) ∧
    (∃ t, exec (.dbRel b true) s = .next t ∧ onlyDebouncer s t b { dbState := .pressedConfirmed, dbCnt := 0 } false) ∧
    (∃ t, exec (.dbRel b false) s = .next t ∧
      if (debouncerOf s.samp b).dbCnt.toNat + 1 ≥ 3 then onlyDebouncer s t b { dbState := .idle, dbCnt := 0 } false
      else onlyDebouncer s t b { dbState := .released, dbCnt := (debouncerOf s.samp b).dbCnt + 1 } false)

/-- SAMPLE in every phase but FATAL: both buttons are debounced, `evt` shows what was confirmed, and the hand-off accepts CHECK, else WRITE,
in IDLE only; in any other phase every event is dropped without trace; in FATAL nothing happens (43 R150, R156, R158, R159, R160, R162). -/
def Obligations.SampleResult : Prop :=
  (∀ rC rW : Bool,
    decode { port := .stimulus, code := 0b0010#4 ++ 0#2 ++ BitVec.ofBool rW ++ BitVec.ofBool rC ++ 0#32 } = .ok (.sample rC rW)) ∧
  (∀ (s : State) (rC rW : Bool), s.ctl.phase = .fatal → exec (.sample rC rW) s = .next { s with out := OutPins.quiet }) ∧
  ∀ (s : State) (rC rW : Bool), s.ctl.phase ≠ .fatal → ∃ t, exec (.sample rC rW) s = .next t ∧
    t.samp.check = (debounce s.samp.check rC).deb ∧ t.samp.write = (debounce s.samp.write rW).deb ∧
    evtPins t = BitVec.ofBool (debounce s.samp.write rW).e ++ BitVec.ofBool (debounce s.samp.check rC).e ∧
    t.ctl =
      (if s.ctl.phase = .idle ∧ (debounce s.samp.check rC).e = true then { s.ctl with wf := .check, phase := .start }
       else if s.ctl.phase = .idle ∧ (debounce s.samp.write rW).e = true then { s.ctl with wf := .write, phase := .start }
       else s.ctl) ∧
    t = { s with ctl := t.ctl, samp := t.samp,
                 out := { OutPins.quiet with evtCheck := t.out.evtCheck, evtWrite := t.out.evtWrite } }

/-- A SAMPLE does to each button what the operation of that button's debounce state does by itself (43 R151; 30_encoding R80, R94).
That the DB operations run by themselves, on one button, is the model's (log entry 8). -/
def Obligations.SampleIsItsOperations : Prop :=
  ∀ (s tC tW t : State) (rC rW : Bool),
    exec (debounceInstr .check rC s.samp.check.dbState) s = .next tC →
    exec (debounceInstr .write rW s.samp.write.dbState) s = .next tW →
    exec (.sample rC rW) s = .next t →
    t.samp.check = tC.samp.check ∧ t.samp.write = tW.samp.write ∧
    t.out.evtCheck = tC.out.evtCheck ∧ t.out.evtWrite = tW.out.evtWrite

/-- 43 R157: (a) a clean press gives one event, at its third sample; (b) between two visits to `idle` there is at most one; (c) a run with
no three consecutive pressed samples gives none from `idle`; (d) from one event to the next lie at least six samples. -/
def Obligations.PressProperties : Prop :=
  (∀ (c : BitVec 4) (n m : Nat), 3 ≤ n → 3 ≤ m →
    debounceRun { dbState := .idle, dbCnt := c } (List.replicate n true ++ List.replicate m false) =
      ({ dbState := .idle, dbCnt := 0 }, 1) ∧
    debounceRun { dbState := .idle, dbCnt := c } (List.replicate 2 true) = ({ dbState := .pressedPending, dbCnt := 2 }, 0) ∧
    debounceRun { dbState := .idle, dbCnt := c } (List.replicate 3 true) = ({ dbState := .pressedConfirmed, dbCnt := 0 }, 1)) ∧
  (∀ (c : BitVec 4) (rs : List Bool),
    (∀ ps, ps ≠ [] → ps <+: rs → ps ≠ rs → (debounceRun { dbState := .idle, dbCnt := c } ps).1.dbState ≠ .idle) →
    (debounceRun { dbState := .idle, dbCnt := c } rs).2 ≤ 1) ∧
  (∀ (c : BitVec 4) (rs : List Bool), ¬ ([true, true, true] <:+: rs) → (debounceRun { dbState := .idle, dbCnt := c } rs).2 = 0) ∧
  (∀ rs : List Bool, 1 ≤ (debounceRun { dbState := .pressedConfirmed, dbCnt := 0 } rs).2 → 6 ≤ rs.length)

/-! ### The Controller -/

/-- The phase selects what a CTL or an RSP does: it is the phase operation of the current phase on that event (44 R171, R172;
30_encoding R80, R86). -/
def Obligations.PhaseSelectsOperation : Prop :=
  ∀ s : State, exec .ctl s = exec (phaseInstr .ctl s.ctl.phase) s ∧
    ∀ r, exec (.rsp r) s = exec (phaseInstr (.rsp r) s.ctl.phase) s

/-- 44 R175. Of all the events but RESET only a SAMPLE that confirms a press leaves IDLE, for START, and all else the Controller holds
persists in IDLE. -/
def Obligations.BootAndIdlePhases : Prop :=
  phaseCode 0b0000 .phBoot ∧ phaseCode 0b0001 .phIdle ∧ ∀ s : State,
    (s.ctl.phase = .boot →
      exec .ctl s = .next { s with ctl := { s.ctl with phase := if s.sched.bootDone then .idle else .boot }, out := OutPins.quiet } ∧
      exec (.phBoot .ctl) s = exec .ctl s) ∧
    (s.ctl.phase = .idle →
      exec .ctl s = .next { s with out := OutPins.quiet } ∧ exec (.phIdle .ctl) s = exec .ctl s ∧
      ∀ i t, i.isEvent = true → notReset i = true → exec i s = .next t →
        t.ctl = { s.ctl with phase := t.ctl.phase, wf := t.ctl.wf } ∧
        (t.ctl.phase = .idle ∧ t.ctl.wf = s.ctl.wf ∨
          t.ctl.phase = .start ∧ (∃ rC rW, i = .sample rC rW) ∧ (t.out.evtCheck = true ∨ t.out.evtWrite = true)))

/-- 44 R176, R177. -/
def Obligations.StartPhase : Prop :=
  phaseCode 0b0010 .phStart ∧ ∀ s : State, s.ctl.phase = .start → ∃ t, exec .ctl s = .next t ∧ exec (.phStart .ctl) s = .next t ∧
    onlyCtl s t OutPins.quiet ∧
    t.ctl = { s.ctl with slot := t.ctl.slot, gerr := false, runErr := .ok, act := false, refImage := none, refValid := false,
                         cur := 0, phase := .select } ∧
    lampsDerived t.ctl ∧
    (s.ctl.wf = .check → ∀ i : Slot, recordAt t.ctl i =
      { presence := .absent, sizeMatch := .unknown, lastOpResult := .none, ledMode := .off }) ∧
    (s.ctl.wf ≠ .check → otherStatus s.ctl t.ctl 0 ∧
      recordAt t.ctl 0 = { presence := .absent, sizeMatch := .unknown, lastOpResult := .none, ledMode := .off })

/-- 44 R178, 40 R112, 60 R284: the range check first, and on failure nothing else. -/
def Obligations.SelectPhase : Prop :=
  phaseCode 0b0011 .phSelect ∧ ∀ s : State, s.ctl.phase = .select → ∃ t, exec .ctl s = .next t ∧ exec (.phSelect .ctl) s = .next t ∧
    onlyCtl s t OutPins.quiet ∧
    (s.ctl.cur.toNat ≤ 15 →
      t.ctl = { s.ctl with slot := t.ctl.slot, muxAddr := s.ctl.cur.setWidth 4, settleCtr := s.tSettle,
                           act := if s.ctl.wf = .write ∧ 1 ≤ s.ctl.cur.toNat then true else s.ctl.act, phase := .settle } ∧
      (¬ (s.ctl.wf = .write ∧ 1 ≤ s.ctl.cur.toNat) → t.ctl.slot = s.ctl.slot) ∧
      (s.ctl.wf = .write ∧ 1 ≤ s.ctl.cur.toNat →
        (∀ i : Slot, sameStatus (recordAt s.ctl i) (recordAt t.ctl i)) ∧ lampsDerived t.ctl ∧
        (s.ctl.gerr = false → ∀ i : Slot, i.val = s.ctl.cur.toNat → (recordAt t.ctl i).ledMode = .dataActivity))) ∧
    (15 < s.ctl.cur.toNat → t.ctl = { s.ctl with phase := .fatal, fatalCode := .addressOutOfRange })

/-- 44 R179: SETTLE counts `settle_ctr` down, one CTL each, with no request, and the next CTL issues DETECT or WRITE. -/
def Obligations.SettlePhase : Prop :=
  phaseCode 0b0100 .phSettle ∧ ∀ s : State, s.ctl.phase = .settle →
    (s.ctl.settleCtr ≠ 0 →
      exec .ctl s = .next { s with ctl := { s.ctl with settleCtr := s.ctl.settleCtr - 1 }, out := OutPins.quiet }) ∧
    (s.ctl.settleCtr = 0 → (s.ctl.cur = 0 ∨ s.ctl.wf = .check) →
      exec .ctl s = .next { s with ctl := { s.ctl with phase := .detect }, out := requestPins .detect none }) ∧
    (s.ctl.settleCtr = 0 → ¬ (s.ctl.cur = 0 ∨ s.ctl.wf = .check) →
      exec .ctl s = .next { s with ctl := { s.ctl with phase := .write }, out := requestPins .write s.ctl.refImage }) ∧
    exec (.phSettle .ctl) s = exec .ctl s ∧
    (∀ k t, k ≤ s.ctl.settleCtr.toNat → runInstrs (List.replicate k .ctl) s.quiet = .next t →
      t = { s with ctl := { s.ctl with settleCtr := s.ctl.settleCtr - BitVec.ofNat 16 k }, out := OutPins.quiet })

/-- A CTL in a wait phase and an RSP in any other change nothing (44 R180, 47 R254). That a PH operation does nothing either on the event
its phase has no rule for, whatever the current phase is, is the model's (log entry 8). -/
def Obligations.WaitingAndStrayAnswers : Prop :=
  ∀ s : State,
    (isWait s.ctl.phase = true → exec .ctl s = .next { s with out := OutPins.quiet }) ∧
    (∀ r : Rsp, isWait s.ctl.phase = false → exec (.rsp r) s = .next { s with out := OutPins.quiet }) ∧
    (∀ p : Phase, isWait p = true → exec (phaseInstr .ctl p) s = .next { s with out := OutPins.quiet }) ∧
    (∀ (p : Phase) (r : Rsp), isWait p = false → exec (phaseInstr (.rsp r) p) s = .next { s with out := OutPins.quiet })

/-- 45 R203: slot 0's DETECT answer in a CHECK. -/
def Obligations.ReferenceDetectedInCheck : Prop :=
  phaseCode 0b0101 .phDetect ∧ ∀ (s : State) (r : Rsp), s.ctl.phase = .detect → s.ctl.cur = 0 → s.ctl.wf = .check →
    ∃ t, exec (.rsp r) s = .next t ∧ exec (.phDetect (.rsp r)) s = .next t ∧
      onlyCtl s t OutPins.quiet ∧ otherStatus s.ctl t.ctl 0 ∧ lampsDerived t.ctl ∧
      (r.status = .ok ∧ r.flag = true →
        t.ctl = { s.ctl with slot := t.ctl.slot, refSize := r.size, refValid := true, phase := .next } ∧
        statusIs (recordAt t.ctl 0) .present .matching (recordAt s.ctl 0).lastOpResult ∧
        (s.ctl.gerr = false → s.ctl.act = false → (recordAt s.ctl 0).lastOpResult = .none →
          (recordAt t.ctl 0).ledMode = .slowBlink)) ∧
      (¬ (r.status = .ok ∧ r.flag = true) →
        aborted s.ctl t.ctl .noChipDetected ∧
        statusIs (recordAt t.ctl 0) .absent (recordAt s.ctl 0).sizeMatch (recordAt s.ctl 0).lastOpResult)

/-- 46 R222: slot 0's DETECT answer in a WRITE. -/
def Obligations.ReferenceDetectedInWrite : Prop :=
  phaseCode 0b0101 .phDetect ∧ ∀ (s : State) (r : Rsp), s.ctl.phase = .detect → s.ctl.cur = 0 → s.ctl.wf = .write →
    ∃ t, exec (.rsp r) s = .next t ∧ exec (.phDetect (.rsp r)) s = .next t ∧ otherStatus s.ctl t.ctl 0 ∧ lampsDerived t.ctl ∧
      (r.status = .ok ∧ r.flag = true →
        onlyCtl s t (requestPins .read none) ∧
        t.ctl = { s.ctl with slot := t.ctl.slot, refSize := r.size, refValid := true, act := true, phase := .read } ∧
        statusIs (recordAt t.ctl 0) .present .matching (recordAt s.ctl 0).lastOpResult ∧
        (s.ctl.gerr = false → (recordAt t.ctl 0).ledMode = .dataActivity)) ∧
      (¬ (r.status = .ok ∧ r.flag = true) →
        onlyCtl s t OutPins.quiet ∧ aborted s.ctl t.ctl .noChipDetected ∧
        statusIs (recordAt t.ctl 0) .absent (recordAt s.ctl 0).sizeMatch (recordAt s.ctl 0).lastOpResult)

/-- 45 R204, R205: a target slot's DETECT answer; the size is compared only for an answer that reports a chip, for equality. -/
def Obligations.TargetDetected : Prop :=
  phaseCode 0b0101 .phDetect ∧ ∀ (s : State) (r : Rsp) (i : Slot), s.ctl.phase = .detect → i.val = s.ctl.cur.toNat → 1 ≤ i.val →
    ∃ t, exec (.rsp r) s = .next t ∧ exec (.phDetect (.rsp r)) s = .next t ∧
      onlyCtl s t OutPins.quiet ∧ t.ctl = { s.ctl with slot := t.ctl.slot, phase := .next } ∧
      otherStatus s.ctl t.ctl i ∧ lampsDerived t.ctl ∧
      statusIs (recordAt t.ctl i) (targetRecord r s.ctl.refSize).presence (targetRecord r s.ctl.refSize).sizeMatch
        (recordAt s.ctl i).lastOpResult ∧
      (s.ctl.gerr = false → s.ctl.act = false → (recordAt s.ctl i).lastOpResult = .none →
        recordAt t.ctl i = targetRecord r s.ctl.refSize)

/-- 46 R224: the READ answer. Where an OK answer brings no image the image held is a free value, whole in itself (log entry 5). -/
def Obligations.ReadAnswer : Prop :=
  phaseCode 0b0110 .phRead ∧ ∀ (s : State) (r : Rsp), s.ctl.phase = .read →
    ∃ t, exec (.rsp r) s = .next t ∧ exec (.phRead (.rsp r)) s = .next t ∧ otherStatus s.ctl t.ctl 0 ∧ lampsDerived t.ctl ∧
      t = { s with ctl := t.ctl, out := OutPins.quiet, freeCtr := t.freeCtr } ∧
      (r.status = .ok →
        t.ctl = { s.ctl with slot := t.ctl.slot, refImage := t.ctl.refImage, act := false, phase := .archive } ∧
        (∃ img, t.ctl.refImage = some img ∧ img.len = img.bytes.length ∧ img.hash = Config.hash img.bytes ∧
          ∀ bytes, r.image = some bytes → img.bytes = bytes) ∧
        statusIs (recordAt t.ctl 0) (recordAt s.ctl 0).presence (recordAt s.ctl 0).sizeMatch .success ∧
        (s.ctl.gerr = false → (recordAt t.ctl 0).ledMode = .on)) ∧
      (r.status ≠ .ok →
        aborted s.ctl t.ctl .readFailure ∧
        statusIs (recordAt t.ctl 0) (recordAt s.ctl 0).presence (recordAt s.ctl 0).sizeMatch .readFailed)

/-- 46 R225, 47 R259: ARCHIVE emits the store request with the image, waits for nothing and goes to NEXT. With no
image held the channel carries none, which is the model's choice (log entry 25). -/
def Obligations.ArchivePhase : Prop :=
  phaseCode 0b0111 .phArchive ∧ ∀ s : State, s.ctl.phase = .archive →
    exec .ctl s = .next { s with ctl := { s.ctl with phase := .next },
                                 out := { OutPins.quiet with archReq := true, archImage := s.ctl.refImage } } ∧
    exec (.phArchive .ctl) s = exec .ctl s

/-- 46 R228 with the kinds of R227: the WRITE answer. `flag` plays no part. -/
def Obligations.WriteAnswer : Prop :=
  phaseCode 0b1000 .phWrite ∧ ∀ (s : State) (r : Rsp) (i : Slot), s.ctl.phase = .write → i.val = s.ctl.cur.toNat →
    ∃ t, exec (.rsp r) s = .next t ∧ exec (.phWrite (.rsp r)) s = .next t ∧
      (r.status = .ok → t = { s with ctl := { s.ctl with phase := .verify }, out := requestPins .verify s.ctl.refImage }) ∧
      (r.status ≠ .ok →
        onlyCtl s t OutPins.quiet ∧ t.ctl = { s.ctl with slot := t.ctl.slot, act := false, phase := .next } ∧
        otherStatus s.ctl t.ctl i ∧ lampsDerived t.ctl ∧
        statusIs (recordAt t.ctl i) (recordAt s.ctl i).presence (recordAt s.ctl i).sizeMatch
          (if r.status = .readFailure then .readFailed else if r.status = .verifyFailure then .verifyFailed else .writeFailed) ∧
        (recordAt t.ctl i).ledMode = .fastBlink)

/-- 46 R230 with the kinds of R227: the VERIFY answer. -/
def Obligations.VerifyAnswer : Prop :=
  phaseCode 0b1001 .phVerify ∧ ∀ (s : State) (r : Rsp) (i : Slot), s.ctl.phase = .verify → i.val = s.ctl.cur.toNat →
    ∃ t, exec (.rsp r) s = .next t ∧ exec (.phVerify (.rsp r)) s = .next t ∧
      onlyCtl s t OutPins.quiet ∧ t.ctl = { s.ctl with slot := t.ctl.slot, act := false, phase := .next } ∧
      otherStatus s.ctl t.ctl i ∧ lampsDerived t.ctl ∧
      statusIs (recordAt t.ctl i) (recordAt s.ctl i).presence (recordAt s.ctl i).sizeMatch
        (if r.status = .ok ∧ r.flag = true then .success
         else if r.status = .readFailure then .readFailed
         else if r.status = .writeFailure then .writeFailed
         else .verifyFailed) ∧
      (s.ctl.gerr = false → (recordAt t.ctl i).ledMode = if r.status = .ok ∧ r.flag = true then .on else .fastBlink)

/-- 44 R181: NEXT ends the workflow after slot 15, and else goes to SELECT or skips. -/
def Obligations.NextPhase : Prop :=
  phaseCode 0b1010 .phNext ∧ ∀ s : State, s.ctl.phase = .next →
    (s.ctl.cur = 15 →
      exec .ctl s = .next { s with ctl := { s.ctl with wf := .none, refImage := none, phase := .idle }, out := OutPins.quiet }) ∧
    (∀ n : Slot, n.val = s.ctl.cur.toNat + 1 →
      exec .ctl s = .next
        { s with ctl := { s.ctl with cur := BitVec.ofNat 5 n.val,
                                     phase := if s.ctl.wf = .check ∨ (recordAt s.ctl n).sizeMatch = .matching then .select else .next },
                 out := OutPins.quiet }) ∧
    exec (.phNext .ctl) s = exec .ctl s

/-- PH.FATAL does nothing, for ever, on either event (60 R280). In another phase it is the model's (log entry 8). -/
def Obligations.FatalPhase : Prop :=
  phaseCode 0b1011 .phFatal ∧ ∀ (s : State) (e : CtlEvent), exec (.phFatal e) s = .next { s with out := OutPins.quiet } ∧
    (s.ctl.phase = .fatal → exec .ctl s = exec (.phFatal .ctl) s ∧ ∀ r, exec (.rsp r) s = exec (.phFatal (.rsp r)) s)

/-- 44 R184: in a state that meets the invariant, no answer for a target slot writes any other slot's record or aborts the workflow;
every answer leads to NEXT, or to VERIFY after a successful WRITE. -/
def Obligations.FailureIsolation : Prop :=
  ∀ (s : State) (r : Rsp), EngineInv s → isWait s.ctl.phase = true → 1 ≤ s.ctl.cur.toNat →
    ∃ t, exec (.rsp r) s = .next t ∧
      (t.ctl.phase = .next ∨ (s.ctl.phase = .write ∧ r.status = .ok ∧ t.ctl.phase = .verify)) ∧
      (∀ j : Slot, j.val ≠ s.ctl.cur.toNat → recordAt t.ctl j = recordAt s.ctl j) ∧
      t.ctl.wf = s.ctl.wf ∧ t.ctl.cur = s.ctl.cur ∧ t.ctl.gerr = s.ctl.gerr ∧ t.ctl.runErr = s.ctl.runErr

/-- The four commands and STORE by themselves: the request pins, the wait phase, and nothing else (45 R201; 46 R223, R227; 47 R250, R259).
That they run by themselves, in any phase but FATAL, is the model's (log entry 8), and so is a STORE with no image held (log entry 25). -/
def Obligations.CommandsAndStore : Prop :=
  ∀ s : State, s.ctl.phase ≠ .fatal →
    exec .detect s = .next { s with ctl := { s.ctl with phase := .detect }, out := requestPins .detect none } ∧
    exec .read s = .next { s with ctl := { s.ctl with phase := .read }, out := requestPins .read none } ∧
    exec .write s = .next { s with ctl := { s.ctl with phase := .write }, out := requestPins .write s.ctl.refImage } ∧
    exec .verify s = .next { s with ctl := { s.ctl with phase := .verify }, out := requestPins .verify s.ctl.refImage } ∧
    exec .store s = .next { s with out := { OutPins.quiet with archReq := true, archImage := s.ctl.refImage } }

/-- SELECT by its code and effect (40 R110, R111, R112). The spec runs it inside phase SELECT only; that it runs by itself, in any phase but
FATAL, is the model's (log entry 8). -/
def Obligations.SelectResult : Prop :=
  (∀ n : BitVec 5, n.toNat ≤ 15 → decode { port := .muxAddr, code := n.setWidth 40 } = .ok (.select n)) ∧
  ∀ (s : State) (n : BitVec 5), s.ctl.phase ≠ .fatal →
    (n.toNat ≤ 15 →
      exec (.select n) s = .next { s with ctl := { s.ctl with muxAddr := n.setWidth 4 }, out := OutPins.quiet } ∧
      (s.ctl.muxAddr.toNat = n.toNat → exec (.select n) s = .next { s with out := OutPins.quiet })) ∧
    (15 < n.toNat →
      exec (.select n) s = .next { s with ctl := { s.ctl with phase := .fatal, fatalCode := .addressOutOfRange }, out := OutPins.quiet })

/-- 47 R264: the status port, in every phase. -/
def Obligations.StatResult : Prop :=
  (∀ i : BitVec 4, decode { port := .stIdx, code := i.setWidth 40 } = .ok (.stat i)) ∧
  ∀ (s : State) (i : BitVec 4), ∃ t, exec (.stat i) s = .next t ∧ t = { s with stIdx := i } ∧
    ∀ j : Slot, j.val = i.toNat →
      stData t = (recordAt s.ctl j).presence.code ++ (recordAt s.ctl j).sizeMatch.code ++ (recordAt s.ctl j).lastOpResult.code ++
        (recordAt s.ctl j).ledMode.code

/-- The status outputs (10_state R30, R31, R35, R36; 47 R262, R265): what each is, in every state; `busy` masks the buttons; what RESET
makes of them; `fa_speed` changes with RESET only and `evt` is there in a SAMPLE only; what they tell in a reachable state.
That the operations of the `fa_speed` clause other than the events run by themselves is the model's (log entry 8). -/
def Obligations.StatusOutputs : Prop :=
  (∀ s : State,
    (busy s = true ↔ s.ctl.phase ≠ .idle) ∧ (ready s = true ↔ s.ctl.phase ≠ .boot ∧ s.ctl.phase ≠ .fatal) ∧
    (fatal s = true ↔ s.ctl.phase = .fatal) ∧ runErrPins s = s.ctl.runErr.code ∧ fatalCodePins s = s.ctl.fatalCode.code ∧
    faSpeed s = s.speedCfg) ∧
  (∀ (s t : State) (rC rW : Bool), exec (.sample rC rW) s = .next t →
    (busy s = true → t.ctl = s.ctl) ∧ (busy s = false → (busy t = true ↔ evtPins t ≠ 0))) ∧
  (∀ (s t : State) (dip : BitVec 32) (resOk : Bool), exec (.reset dip resOk) s = .next t →
    busy t = true ∧ ready t = false ∧ fatal t = !resOk ∧ t.ctl.gerr = false ∧ runErrPins t = 0 ∧
    fatalCodePins t = (if resOk then 0b000 else 0b110) ∧ evtPins t = 0 ∧ faSpeed t = dip) ∧
  (∀ (i : Instr) (s t : State), notReset i = true → exec i s = .next t → faSpeed t = faSpeed s) ∧
  (∀ (i : Instr) (s t : State), i.isEvent = true → (∀ rC rW, i ≠ .sample rC rW) → exec i s = .next t → evtPins t = 0) ∧
  (∀ t : State, Reachable t →
    (ready t = true → t.sched.bootDone = true) ∧
    (fatal t = true → fatalCodePins t = 0b110) ∧ (fatal t = false → fatalCodePins t = 0) ∧
    (t.ctl.gerr = true → runErrPins t = 0b001 ∨ runErrPins t = 0b011) ∧ (t.ctl.gerr = false → runErrPins t = 0))

/-- 44 R170. -/
def Obligations.LampModeTable : Prop :=
  ∀ (p : Presence) (m : SizeMatch) (r : OpResult),
    ledModeOf p m r .gerr = .fastBlink ∧ ledModeOf p m r .act = .dataActivity ∧
    ledModeOf p m .success .norm = .on ∧ ledModeOf p m .verifyFailed .norm = .fastBlink ∧
    ledModeOf p m .readFailed .norm = .fastBlink ∧ ledModeOf p m .writeFailed .norm = .fastBlink ∧
    ledModeOf .absent m .none .norm = .off ∧ ledModeOf .present .matching .none .norm = .slowBlink ∧
    ledModeOf .present .mismatch .none .norm = .fastBlink ∧ ledModeOf .present .unknown .none .norm = .off

/-! ### Whole workflows and whole-machine rules -/

/-- 45 R206, 44 R185: a CHECK from START whose first answer reports a chip runs to IDLE, whatever the other answers; every target's record
is the one its own answer and the reference size give, and the count of events is the rule's. Any other run that is not aborted, with
TICK, SAMPLE, waiting CTL events and stray answers mixed in, takes one DETECT answer for each slot and ends in the same way. -/
def Obligations.CheckWorkflowResult : Prop :=
  (∀ (s : State) (answers : Vector Rsp 16), s.ctl.phase = .start → s.ctl.wf = .check → reportsChip answers[0] →
    (checkWorkflow s.tSettle.toNat answers).count .ctl = 1 + 16 * (s.tSettle.toNat + 3) ∧
    (checkWorkflow s.tSettle.toNat answers).length = 1 + 16 * (s.tSettle.toNat + 3) + 16 ∧
    ∃ t, runInstrs (checkWorkflow s.tSettle.toNat answers) s = .next t ∧
      recordAt t.ctl 0 = { presence := .present, sizeMatch := .matching, lastOpResult := .none, ledMode := .slowBlink } ∧
      (∀ i : Slot, 1 ≤ i.val → recordAt t.ctl i = targetRecord answers[i] answers[0].size) ∧
      t.ctl.gerr = false ∧ t.ctl.runErr = .ok ∧ t.ctl.wf = .none ∧ t.ctl.phase = .idle ∧ t.ctl.cur = 15 ∧ t.ctl.muxAddr = 15 ∧
      t.ctl.refValid = true) ∧
  (∀ (s : State) (e : WorkflowEnd), workflowEnds .check s e → e.last.ctl.gerr = false →
    ∃ d : Rsp, e.takenAt 0 = [{ phase := .detect, slot := 0, rsp := d }] ∧ reportsChip d ∧ e.stores = 0 ∧
      recordAt e.last.ctl 0 = { presence := .present, sizeMatch := .matching, lastOpResult := .none, ledMode := .slowBlink } ∧
      (∀ i : Slot, 1 ≤ i.val →
        checkedRecord (recordAt e.last.ctl i) ∧
        ∃ r : Rsp, e.takenAt i = [{ phase := .detect, slot := i.val, rsp := r }] ∧ recordAt e.last.ctl i = targetRecord r d.size) ∧
      e.last.ctl =
        { slot := e.last.ctl.slot, phase := .idle, wf := .none, cur := 15, settleCtr := 0, gerr := false, act := false,
          refValid := true, refSize := d.size, refImage := none, runErr := .ok, fatalCode := s.ctl.fatalCode, muxAddr := 15 })

/-- 46 R231, 44 R185: a WRITE from START whose DETECT and READ answers for slot 0 are good runs to IDLE, whatever the other answers, and the
counts of events are the rule's. Every run that is not aborted, with TICK, SAMPLE, waiting CTL events and stray answers mixed in, takes
for each eligible slot its WRITE answer and after a successful one its VERIFY answer, and for no other; it records what they give, leaves
every other target as it was, emits one STORE, and ends on the highest eligible slot's address. -/
def Obligations.WriteWorkflowResult : Prop :=
  (∀ (s : State) (d r : Rsp) (w v : Vector Rsp 16), s.ctl.phase = .start → s.ctl.wf = .write → reportsChip d → r.status = .ok →
    let es := writeWorkflow s.tSettle.toNat s.ctl d r w v
    let tried := (List.finRange 16).countP (eligibleSlot s.ctl)
    let failed := (List.finRange 16).countP fun i => eligibleSlot s.ctl i && decide (w[i].status ≠ .ok)
    es.count .ctl = s.tSettle.toNat + 20 + tried * (s.tSettle.toNat + 2) ∧
    es.length + failed = es.count .ctl + 2 + 2 * tried ∧
    ∃ e, runWorkflow es s = some e ∧ e.last.ctl.gerr = false ∧ e.taken.map (fun a => Instr.rsp a.rsp) = es.filter (· ≠ .ctl)) ∧
  (∀ (s : State) (e : WorkflowEnd), workflowEnds .write s e → e.last.ctl.gerr = false →
    ∃ d r : Rsp,
      e.takenAt 0 = [{ phase := .detect, slot := 0, rsp := d }, { phase := .read, slot := 0, rsp := r }] ∧ reportsChip d ∧
      r.status = .ok ∧ e.stores = 1 ∧
      recordAt e.last.ctl 0 = { presence := .present, sizeMatch := .matching, lastOpResult := .success, ledMode := .on } ∧
      (∀ i : Slot, eligibleSlot s.ctl i = true →
        ∃ k : OpResult,
          ((∃ w : Rsp, e.takenAt i = [{ phase := .write, slot := i.val, rsp := w }] ∧ w.status ≠ .ok ∧ k = kindOfWrite w.status) ∨
           (∃ w x : Rsp, e.takenAt i = [{ phase := .write, slot := i.val, rsp := w }, { phase := .verify, slot := i.val, rsp := x }] ∧
             w.status = .ok ∧ k = verifyResult x.status x.flag)) ∧
          k ≠ .none ∧
          recordAt e.last.ctl i =
            { recordAt s.ctl i with lastOpResult := k, ledMode := if k = .success then .on else .fastBlink }) ∧
      (∀ i : Slot, 1 ≤ i.val → eligibleSlot s.ctl i = false →
        e.takenAt i = [] ∧ sameStatus (recordAt s.ctl i) (recordAt e.last.ctl i) ∧
        (s.ctl.gerr = false → s.ctl.act = false → lampsDerived s.ctl → recordAt e.last.ctl i = recordAt s.ctl i)) ∧
      lampsDerived e.last.ctl ∧
      (∀ i : Slot, eligibleSlot s.ctl i = true → i.val ≤ e.last.ctl.muxAddr.toNat) ∧
      (e.last.ctl.muxAddr = 0 ∨ ∃ i : Slot, eligibleSlot s.ctl i = true ∧ i.val = e.last.ctl.muxAddr.toNat) ∧
      e.last.ctl =
        { slot := e.last.ctl.slot, phase := .idle, wf := .none, cur := 15, settleCtr := 0, gerr := false, act := false,
          refValid := true, refSize := d.size, refImage := none, runErr := .ok, fatalCode := s.ctl.fatalCode,
          muxAddr := e.last.ctl.muxAddr })

/-- 45 R207, 46 R232: a workflow from START whose first answer reports no chip, and a WRITE whose READ fails, end in IDLE with the global error
display. Every aborted run, with TICK, SAMPLE, waiting CTL events and stray answers mixed in, is one of these and leaves what they leave: no
target was selected and no STORE emitted. -/
def Obligations.WorkflowAborted : Prop :=
  (∀ (s : State) (d : Rsp), s.ctl.phase = .start → s.ctl.wf ≠ .none → ¬ reportsChip d →
    ∃ e, runWorkflow (List.replicate (s.tSettle.toNat + 3) .ctl ++ [.rsp d]) s = some e ∧ e.last.ctl.gerr = true) ∧
  (∀ (s : State) (d r : Rsp), s.ctl.phase = .start → s.ctl.wf = .write → reportsChip d → r.status ≠ .ok →
    ∃ e, runWorkflow (List.replicate (s.tSettle.toNat + 3) .ctl ++ [.rsp d, .rsp r]) s = some e ∧ e.last.ctl.gerr = true) ∧
  (∀ (s : State) (e : WorkflowEnd) (w : Workflow), w ≠ .none → workflowEnds w s e → e.last.ctl.gerr = true →
    e.stores = 0 ∧ (∀ i : Slot, (recordAt e.last.ctl i).ledMode = .fastBlink) ∧
    (w = .check → ∀ i : Slot, 1 ≤ i.val → statusIs (recordAt e.last.ctl i) .absent .unknown .none) ∧
    (w = .write → otherStatus s.ctl e.last.ctl 0) ∧
    ∃ (code : ErrCode) (valid : Bool) (size : ChipSize),
      e.last.ctl =
        { slot := e.last.ctl.slot, phase := .idle, wf := .none, cur := 0, settleCtr := 0, gerr := true, act := false,
          refValid := valid, refSize := size, refImage := none, runErr := code, fatalCode := s.ctl.fatalCode, muxAddr := 0 } ∧
      ((∃ d : Rsp, e.taken = [{ phase := .detect, slot := 0, rsp := d }] ∧ ¬ reportsChip d ∧ code = .noChipDetected ∧
          valid = false ∧ size = s.ctl.refSize ∧ statusIs (recordAt e.last.ctl 0) .absent .unknown .none) ∨
       (w = .write ∧ ∃ d r : Rsp, e.taken = [{ phase := .detect, slot := 0, rsp := d }, { phase := .read, slot := 0, rsp := r }] ∧
          reportsChip d ∧ r.status ≠ .ok ∧ code = .readFailure ∧ valid = true ∧ size = d.size ∧
          statusIs (recordAt e.last.ctl 0) .present .matching .readFailed)))

/-- 44 R186: the records after a CHECK are a function of its DETECT answers only, whatever the states before it and whatever TICK, SAMPLE,
waiting CTL events and stray answers were mixed in. -/
def Obligations.CheckIsIdempotent : Prop :=
  (∀ (s s' t t' : State) (answers : Vector Rsp 16),
    s.ctl.phase = .start → s.ctl.wf = .check → s'.ctl.phase = .start → s'.ctl.wf = .check →
    runInstrs (checkWorkflow s.tSettle.toNat answers) s = .next t →
    runInstrs (checkWorkflow s'.tSettle.toNat answers) s' = .next t' →
    ∀ i : Slot, recordAt t.ctl i = recordAt t'.ctl i) ∧
  (∀ (s s' : State) (e e' : WorkflowEnd), workflowEnds .check s e → workflowEnds .check s' e' →
    e.taken.map Taken.rsp = e'.taken.map Taken.rsp → ∀ i : Slot, recordAt e.last.ctl i = recordAt e'.last.ctl i)

/-- 20_memory R73, 70 R320: while a request is outstanding no event but RESET changes the slot address, and after a SELECT none of the
CTL events that T_SETTLE counts issues a request. -/
def Obligations.AddressSteadyBeforeAndDuringRequest : Prop :=
  (∀ (i : Instr) (s t : State), i.isEvent = true → notReset i = true → outstanding s = true → exec i s = .next t →
    t.ctl.muxAddr = s.ctl.muxAddr) ∧
  (∀ (s t : State) (k : Nat), s.ctl.phase = .select → s.ctl.cur.toNat ≤ 15 → 1 ≤ k → k ≤ s.tSettle.toNat + 1 →
    runInstrs (List.replicate k .ctl) s = .next t →
    t.ctl.phase = .settle ∧ t.ctl.muxAddr.toNat = s.ctl.cur.toNat ∧ t.out.faReq = false)

/-- 10_state R34: an event leaves the image as it was, or drops it, or brings it. It is dropped by RESET, by the CTL of START, by the CTL of
NEXT that ends the workflow, and by the answer in DETECT or READ that aborts it, and it is brought whole by an OK READ answer; where that
answer carries no image, what it brings is the model's free value (log entry 5). -/
def Obligations.ImageLifetime : Prop :=
  ∀ (i : Instr) (s t : State), i.isEvent = true → exec i s = .next t →
    t.ctl.refImage = s.ctl.refImage ∨
    (t.ctl.refImage = none ∧
      (notReset i = false ∨ (i = .ctl ∧ s.ctl.phase = .start) ∨
       (i = .ctl ∧ s.ctl.phase = .next ∧ s.ctl.cur = 15 ∧ t.ctl.phase = .idle) ∨
       (∃ r, i = .rsp r ∧ (s.ctl.phase = .detect ∨ s.ctl.phase = .read) ∧ ¬ (r.status = .ok ∧ (s.ctl.phase = .detect → r.flag = true)) ∧
         t.ctl.gerr = true ∧ t.ctl.phase = .idle))) ∨
    (s.ctl.phase = .read ∧ t.ctl.phase = .archive ∧ ∃ r img, i = .rsp r ∧ r.status = .ok ∧ t.ctl.refImage = some img ∧
      img.len = img.bytes.length ∧ img.hash = Config.hash img.bytes ∧ ∀ bytes, r.image = some bytes → img.bytes = bytes)
end

