-- ==== Sys2Proof/Laws/Decode.lean ====
section
/-! SUPPORT. The small lemmas of the decoder: each enumeration's code is read back, and the fields of a stimulus word are the ones it
was put together from. -/

namespace Sys2Proof

@[simp] theorem ErrCode.ofCode_code (e : ErrCode) : ErrCode.ofCode e.code = e := by cases e <;> rfl
@[simp] theorem Phase.ofCode_code (p : Phase) : Phase.ofCode p.code = some p := by cases p <;> rfl
@[simp] theorem LedMode.ofCode_code (m : LedMode) : LedMode.ofCode m.code = some m := by cases m <;> rfl
@[simp] theorem DbState.ofCode_code (d : DbState) : DbState.ofCode d.code = d := by cases d <;> rfl
@[simp] theorem FaCmd.ofCode_code (c : FaCmd) : FaCmd.ofCode c.code = some c := by cases c <;> rfl

/-- Codes that name a phase are the phase's code. -/
theorem Phase.code_of_ofCode {c : BitVec 4} {p : Phase} (h : Phase.ofCode c = some p) : p.code = c := by
  revert c p
  decide

/-- Codes that name a lamp mode are the mode's code. -/
theorem LedMode.code_of_ofCode {c : BitVec 3} {m : LedMode} (h : LedMode.ofCode c = some m) : m.code = c := by
  revert c m
  decide

/-- The three fields of 30_encoding R98, read back from a word put together of them. -/
theorem stimWord_kind (kind aux : BitVec 4) (val : BitVec 32) : (stimWord kind aux val).extractLsb' 36 4 = kind := by
  apply BitVec.eq_of_getLsbD_eq
  intro i hi
  have h1 : ¬ 36 + i < 32 := by omega
  have h2 : ¬ 36 + i - 32 < 4 := by omega
  have h3 : 36 + i - 32 - 4 = i := by omega
  simp only [stimWord, BitVec.getLsbD_extractLsb', BitVec.getLsbD_append, h1, h2, h3, hi, decide_true, Bool.true_and, if_false]

theorem stimWord_aux (kind aux : BitVec 4) (val : BitVec 32) : (stimWord kind aux val).extractLsb' 32 4 = aux := by
  apply BitVec.eq_of_getLsbD_eq
  intro i hi
  have h1 : ¬ 32 + i < 32 := by omega
  have h3 : 32 + i - 32 = i := by omega
  simp only [stimWord, BitVec.getLsbD_extractLsb', BitVec.getLsbD_append, h1, h3, hi, decide_true, Bool.true_and, if_false, if_true]

theorem stimWord_val (kind aux : BitVec 4) (val : BitVec 32) : (stimWord kind aux val).extractLsb' 0 32 = val := by
  apply BitVec.eq_of_getLsbD_eq
  intro i hi
  have h3 : 0 + i = i := by omega
  simp only [stimWord, BitVec.getLsbD_extractLsb', BitVec.getLsbD_append, h3, hi, decide_true, Bool.true_and, if_true]

/-- An adapter answer is read back from its word and its image. -/
theorem rspOfWord_rspWord (r : Rsp) : rspOfWord (rspWord r) r.image = r := by
  obtain ⟨status, flag, size, image⟩ := r
  have hs : (rspWord { status := status, flag := flag, size := size, image := image }).extractLsb' 32 3 = status.code := by
    apply BitVec.eq_of_getLsbD_eq
    intro i hi
    have h1 : ¬ 32 + i < 32 := by omega
    have h2 : 32 + i - 32 = i := by omega
    have h3 : i < 4 := by omega
    simp only [rspWord, stimWord, BitVec.getLsbD_extractLsb', BitVec.getLsbD_append, h1, h2, h3, hi, decide_true, Bool.true_and,
      if_false, if_true]
  have hf : (rspWord { status := status, flag := flag, size := size, image := image }).getLsbD 35 = flag := by
    simp only [rspWord, stimWord, BitVec.getLsbD_append]
    cases flag <;> rfl
  simp only [rspOfWord, hs, hf, ErrCode.ofCode_code]
  simp only [rspWord, stimWord_val]

/-- The controller event beside a phase code is read back from its word and its image. -/
theorem decodeCtlEvent_word (e : CtlEvent) : decodeCtlEvent (ctlEventWord e) (ctlEventImage e) = .ok e := by
  cases e with
  | ctl => rfl
  | rsp r =>
    have hk : ((rspWord r).extractLsb' 36 4).toNat = 3 := by
      rw [rspWord, stimWord_kind]
      rfl
    simp only [decodeCtlEvent, ctlEventWord, ctlEventImage, hk, rspOfWord_rspWord]

end Sys2Proof
end

