-- ==== Sys2Proof/Laws/State.lean ====
section
/-! SUPPORT. One lemma per field per update of the state and of the controller's registers, true by unfolding: later proofs cite
these and unfold no record update. -/

namespace Sys2Proof.Machine

@[simp] theorem State.withCtl_ctl (s : State) (c : CtlRegs) : (s.withCtl c).ctl = c := rfl
@[simp] theorem State.withCtl_sched (s : State) (c : CtlRegs) : (s.withCtl c).sched = s.sched := rfl
@[simp] theorem State.withCtl_samp (s : State) (c : CtlRegs) : (s.withCtl c).samp = s.samp := rfl
@[simp] theorem State.withCtl_speedCfg (s : State) (c : CtlRegs) : (s.withCtl c).speedCfg = s.speedCfg := rfl
@[simp] theorem State.withCtl_out (s : State) (c : CtlRegs) : (s.withCtl c).out = s.out := rfl
@[simp] theorem State.withCtl_stIdx (s : State) (c : CtlRegs) : (s.withCtl c).stIdx = s.stIdx := rfl
@[simp] theorem State.withCtl_stim (s : State) (c : CtlRegs) : (s.withCtl c).stim = s.stim := rfl
@[simp] theorem State.withCtl_tSettle (s : State) (c : CtlRegs) : (s.withCtl c).tSettle = s.tSettle := rfl
@[simp] theorem State.withCtl_freeCtr (s : State) (c : CtlRegs) : (s.withCtl c).freeCtr = s.freeCtr := rfl

@[simp] theorem State.withSched_ctl (s : State) (c : SchedRegs) : (s.withSched c).ctl = s.ctl := rfl
@[simp] theorem State.withSched_sched (s : State) (c : SchedRegs) : (s.withSched c).sched = c := rfl
@[simp] theorem State.withSched_samp (s : State) (c : SchedRegs) : (s.withSched c).samp = s.samp := rfl
@[simp] theorem State.withSched_speedCfg (s : State) (c : SchedRegs) : (s.withSched c).speedCfg = s.speedCfg := rfl
@[simp] theorem State.withSched_out (s : State) (c : SchedRegs) : (s.withSched c).out = s.out := rfl
@[simp] theorem State.withSched_stIdx (s : State) (c : SchedRegs) : (s.withSched c).stIdx = s.stIdx := rfl
@[simp] theorem State.withSched_stim (s : State) (c : SchedRegs) : (s.withSched c).stim = s.stim := rfl
@[simp] theorem State.withSched_tSettle (s : State) (c : SchedRegs) : (s.withSched c).tSettle = s.tSettle := rfl
@[simp] theorem State.withSched_freeCtr (s : State) (c : SchedRegs) : (s.withSched c).freeCtr = s.freeCtr := rfl

@[simp] theorem State.withSamp_ctl (s : State) (c : SampRegs) : (s.withSamp c).ctl = s.ctl := rfl
@[simp] theorem State.withSamp_sched (s : State) (c : SampRegs) : (s.withSamp c).sched = s.sched := rfl
@[simp] theorem State.withSamp_samp (s : State) (c : SampRegs) : (s.withSamp c).samp = c := rfl
@[simp] theorem State.withSamp_speedCfg (s : State) (c : SampRegs) : (s.withSamp c).speedCfg = s.speedCfg := rfl
@[simp] theorem State.withSamp_out (s : State) (c : SampRegs) : (s.withSamp c).out = s.out := rfl
@[simp] theorem State.withSamp_stIdx (s : State) (c : SampRegs) : (s.withSamp c).stIdx = s.stIdx := rfl
@[simp] theorem State.withSamp_stim (s : State) (c : SampRegs) : (s.withSamp c).stim = s.stim := rfl
@[simp] theorem State.withSamp_tSettle (s : State) (c : SampRegs) : (s.withSamp c).tSettle = s.tSettle := rfl
@[simp] theorem State.withSamp_freeCtr (s : State) (c : SampRegs) : (s.withSamp c).freeCtr = s.freeCtr := rfl

@[simp] theorem State.withOut_ctl (s : State) (o : OutPins) : (s.withOut o).ctl = s.ctl := rfl
@[simp] theorem State.withOut_sched (s : State) (o : OutPins) : (s.withOut o).sched = s.sched := rfl
@[simp] theorem State.withOut_samp (s : State) (o : OutPins) : (s.withOut o).samp = s.samp := rfl
@[simp] theorem State.withOut_speedCfg (s : State) (o : OutPins) : (s.withOut o).speedCfg = s.speedCfg := rfl
@[simp] theorem State.withOut_out (s : State) (o : OutPins) : (s.withOut o).out = o := rfl
@[simp] theorem State.withOut_stIdx (s : State) (o : OutPins) : (s.withOut o).stIdx = s.stIdx := rfl
@[simp] theorem State.withOut_stim (s : State) (o : OutPins) : (s.withOut o).stim = s.stim := rfl
@[simp] theorem State.withOut_tSettle (s : State) (o : OutPins) : (s.withOut o).tSettle = s.tSettle := rfl
@[simp] theorem State.withOut_freeCtr (s : State) (o : OutPins) : (s.withOut o).freeCtr = s.freeCtr := rfl

@[simp] theorem State.quiet_ctl (s : State) : (s.quiet).ctl = s.ctl := rfl
@[simp] theorem State.quiet_sched (s : State) : (s.quiet).sched = s.sched := rfl
@[simp] theorem State.quiet_samp (s : State) : (s.quiet).samp = s.samp := rfl
@[simp] theorem State.quiet_speedCfg (s : State) : (s.quiet).speedCfg = s.speedCfg := rfl
@[simp] theorem State.quiet_out (s : State) : (s.quiet).out = OutPins.quiet := rfl
@[simp] theorem State.quiet_stIdx (s : State) : (s.quiet).stIdx = s.stIdx := rfl
@[simp] theorem State.quiet_stim (s : State) : (s.quiet).stim = s.stim := rfl
@[simp] theorem State.quiet_tSettle (s : State) : (s.quiet).tSettle = s.tSettle := rfl
@[simp] theorem State.quiet_freeCtr (s : State) : (s.quiet).freeCtr = s.freeCtr := rfl

@[simp] theorem State.toPhase_ctl (s : State) (p : Phase) : (s.toPhase p).ctl = { s.ctl with phase := p } := rfl
@[simp] theorem State.toPhase_sched (s : State) (p : Phase) : (s.toPhase p).sched = s.sched := rfl
@[simp] theorem State.toPhase_samp (s : State) (p : Phase) : (s.toPhase p).samp = s.samp := rfl
@[simp] theorem State.toPhase_speedCfg (s : State) (p : Phase) : (s.toPhase p).speedCfg = s.speedCfg := rfl
@[simp] theorem State.toPhase_out (s : State) (p : Phase) : (s.toPhase p).out = s.out := rfl
@[simp] theorem State.toPhase_stIdx (s : State) (p : Phase) : (s.toPhase p).stIdx = s.stIdx := rfl
@[simp] theorem State.toPhase_stim (s : State) (p : Phase) : (s.toPhase p).stim = s.stim := rfl
@[simp] theorem State.toPhase_tSettle (s : State) (p : Phase) : (s.toPhase p).tSettle = s.tSettle := rfl
@[simp] theorem State.toPhase_freeCtr (s : State) (p : Phase) : (s.toPhase p).freeCtr = s.freeCtr := rfl

@[simp] theorem State.withNext_ctl (s : State) (u : Stimulus) : (s.withNext u).ctl = s.ctl := rfl
@[simp] theorem State.withNext_sched (s : State) (u : Stimulus) : (s.withNext u).sched = s.sched := rfl
@[simp] theorem State.withNext_samp (s : State) (u : Stimulus) : (s.withNext u).samp = s.samp := rfl
@[simp] theorem State.withNext_speedCfg (s : State) (u : Stimulus) : (s.withNext u).speedCfg = s.speedCfg := rfl
@[simp] theorem State.withNext_out (s : State) (u : Stimulus) : (s.withNext u).out = s.out := rfl
@[simp] theorem State.withNext_stIdx (s : State) (u : Stimulus) : (s.withNext u).stIdx = s.stIdx := rfl
@[simp] theorem State.withNext_stim (s : State) (u : Stimulus) : (s.withNext u).stim = u :: s.stim := rfl
@[simp] theorem State.withNext_tSettle (s : State) (u : Stimulus) : (s.withNext u).tSettle = s.tSettle := rfl
@[simp] theorem State.withNext_freeCtr (s : State) (u : Stimulus) : (s.withNext u).freeCtr = s.freeCtr := rfl

@[simp] theorem advance_ctl (s : State) : (advance s).ctl = s.ctl := rfl
@[simp] theorem advance_sched (s : State) : (advance s).sched = s.sched := rfl
@[simp] theorem advance_samp (s : State) : (advance s).samp = s.samp := rfl
@[simp] theorem advance_speedCfg (s : State) : (advance s).speedCfg = s.speedCfg := rfl
@[simp] theorem advance_out (s : State) : (advance s).out = s.out := rfl
@[simp] theorem advance_stIdx (s : State) : (advance s).stIdx = s.stIdx := rfl
@[simp] theorem advance_stim (s : State) : (advance s).stim = s.stim.tail := rfl
@[simp] theorem advance_tSettle (s : State) : (advance s).tSettle = s.tSettle := rfl
@[simp] theorem advance_freeCtr (s : State) : (advance s).freeCtr = s.freeCtr := rfl

@[simp] theorem setRecord_slot (c : CtlRegs) (i : Slot) (r : SlotState) : (setRecord c i r).slot = c.slot.set i r := rfl
@[simp] theorem setRecord_phase (c : CtlRegs) (i : Slot) (r : SlotState) : (setRecord c i r).phase = c.phase := rfl
@[simp] theorem setRecord_wf (c : CtlRegs) (i : Slot) (r : SlotState) : (setRecord c i r).wf = c.wf := rfl
@[simp] theorem setRecord_cur (c : CtlRegs) (i : Slot) (r : SlotState) : (setRecord c i r).cur = c.cur := rfl
@[simp] theorem setRecord_settleCtr (c : CtlRegs) (i : Slot) (r : SlotState) : (setRecord c i r).settleCtr = c.settleCtr := rfl
@[simp] theorem setRecord_gerr (c : CtlRegs) (i : Slot) (r : SlotState) : (setRecord c i r).gerr = c.gerr := rfl
@[simp] theorem setRecord_act (c : CtlRegs) (i : Slot) (r : SlotState) : (setRecord c i r).act = c.act := rfl
@[simp] theorem setRecord_refValid (c : CtlRegs) (i : Slot) (r : SlotState) : (setRecord c i r).refValid = c.refValid := rfl
@[simp] theorem setRecord_refSize (c : CtlRegs) (i : Slot) (r : SlotState) : (setRecord c i r).refSize = c.refSize := rfl
@[simp] theorem setRecord_refImage (c : CtlRegs) (i : Slot) (r : SlotState) : (setRecord c i r).refImage = c.refImage := rfl
@[simp] theorem setRecord_runErr (c : CtlRegs) (i : Slot) (r : SlotState) : (setRecord c i r).runErr = c.runErr := rfl
@[simp] theorem setRecord_fatalCode (c : CtlRegs) (i : Slot) (r : SlotState) : (setRecord c i r).fatalCode = c.fatalCode := rfl
@[simp] theorem setRecord_muxAddr (c : CtlRegs) (i : Slot) (r : SlotState) : (setRecord c i r).muxAddr = c.muxAddr := rfl

@[simp] theorem rederive_phase (c : CtlRegs) : (rederive c).phase = c.phase := rfl
@[simp] theorem rederive_wf (c : CtlRegs) : (rederive c).wf = c.wf := rfl
@[simp] theorem rederive_cur (c : CtlRegs) : (rederive c).cur = c.cur := rfl
@[simp] theorem rederive_settleCtr (c : CtlRegs) : (rederive c).settleCtr = c.settleCtr := rfl
@[simp] theorem rederive_gerr (c : CtlRegs) : (rederive c).gerr = c.gerr := rfl
@[simp] theorem rederive_act (c : CtlRegs) : (rederive c).act = c.act := rfl
@[simp] theorem rederive_refValid (c : CtlRegs) : (rederive c).refValid = c.refValid := rfl
@[simp] theorem rederive_refSize (c : CtlRegs) : (rederive c).refSize = c.refSize := rfl
@[simp] theorem rederive_refImage (c : CtlRegs) : (rederive c).refImage = c.refImage := rfl
@[simp] theorem rederive_runErr (c : CtlRegs) : (rederive c).runErr = c.runErr := rfl
@[simp] theorem rederive_fatalCode (c : CtlRegs) : (rederive c).fatalCode = c.fatalCode := rfl
@[simp] theorem rederive_muxAddr (c : CtlRegs) : (rederive c).muxAddr = c.muxAddr := rfl

@[simp] theorem slotDone_slot (c : CtlRegs) : (slotDone c).slot = (rederive c).slot := rfl
@[simp] theorem slotDone_phase (c : CtlRegs) : (slotDone c).phase = .next := rfl
@[simp] theorem slotDone_wf (c : CtlRegs) : (slotDone c).wf = c.wf := rfl
@[simp] theorem slotDone_cur (c : CtlRegs) : (slotDone c).cur = c.cur := rfl
@[simp] theorem slotDone_settleCtr (c : CtlRegs) : (slotDone c).settleCtr = c.settleCtr := rfl
@[simp] theorem slotDone_gerr (c : CtlRegs) : (slotDone c).gerr = c.gerr := rfl
@[simp] theorem slotDone_act (c : CtlRegs) : (slotDone c).act = c.act := rfl
@[simp] theorem slotDone_refValid (c : CtlRegs) : (slotDone c).refValid = c.refValid := rfl
@[simp] theorem slotDone_refSize (c : CtlRegs) : (slotDone c).refSize = c.refSize := rfl
@[simp] theorem slotDone_refImage (c : CtlRegs) : (slotDone c).refImage = c.refImage := rfl
@[simp] theorem slotDone_runErr (c : CtlRegs) : (slotDone c).runErr = c.runErr := rfl
@[simp] theorem slotDone_fatalCode (c : CtlRegs) : (slotDone c).fatalCode = c.fatalCode := rfl
@[simp] theorem slotDone_muxAddr (c : CtlRegs) : (slotDone c).muxAddr = c.muxAddr := rfl

@[simp] theorem abortRegs_phase (c : CtlRegs) (code : ErrCode) : (abortRegs c code).phase = .idle := rfl
@[simp] theorem abortRegs_wf (c : CtlRegs) (code : ErrCode) : (abortRegs c code).wf = .none := rfl
@[simp] theorem abortRegs_cur (c : CtlRegs) (code : ErrCode) : (abortRegs c code).cur = c.cur := rfl
@[simp] theorem abortRegs_settleCtr (c : CtlRegs) (code : ErrCode) : (abortRegs c code).settleCtr = c.settleCtr := rfl
@[simp] theorem abortRegs_gerr (c : CtlRegs) (code : ErrCode) : (abortRegs c code).gerr = true := rfl
@[simp] theorem abortRegs_act (c : CtlRegs) (code : ErrCode) : (abortRegs c code).act = false := rfl
@[simp] theorem abortRegs_refValid (c : CtlRegs) (code : ErrCode) : (abortRegs c code).refValid = c.refValid := rfl
@[simp] theorem abortRegs_refSize (c : CtlRegs) (code : ErrCode) : (abortRegs c code).refSize = c.refSize := rfl
@[simp] theorem abortRegs_refImage (c : CtlRegs) (code : ErrCode) : (abortRegs c code).refImage = none := rfl
@[simp] theorem abortRegs_runErr (c : CtlRegs) (code : ErrCode) : (abortRegs c code).runErr = code := rfl
@[simp] theorem abortRegs_fatalCode (c : CtlRegs) (code : ErrCode) : (abortRegs c code).fatalCode = c.fatalCode := rfl
@[simp] theorem abortRegs_muxAddr (c : CtlRegs) (code : ErrCode) : (abortRegs c code).muxAddr = c.muxAddr := rfl

@[simp] theorem fatalRegs_slot (c : CtlRegs) (code : ErrCode) : (fatalRegs c code).slot = c.slot := rfl
@[simp] theorem fatalRegs_phase (c : CtlRegs) (code : ErrCode) : (fatalRegs c code).phase = .fatal := rfl
@[simp] theorem fatalRegs_wf (c : CtlRegs) (code : ErrCode) : (fatalRegs c code).wf = c.wf := rfl
@[simp] theorem fatalRegs_cur (c : CtlRegs) (code : ErrCode) : (fatalRegs c code).cur = c.cur := rfl
@[simp] theorem fatalRegs_settleCtr (c : CtlRegs) (code : ErrCode) : (fatalRegs c code).settleCtr = c.settleCtr := rfl
@[simp] theorem fatalRegs_gerr (c : CtlRegs) (code : ErrCode) : (fatalRegs c code).gerr = c.gerr := rfl
@[simp] theorem fatalRegs_act (c : CtlRegs) (code : ErrCode) : (fatalRegs c code).act = c.act := rfl
@[simp] theorem fatalRegs_refValid (c : CtlRegs) (code : ErrCode) : (fatalRegs c code).refValid = c.refValid := rfl
@[simp] theorem fatalRegs_refSize (c : CtlRegs) (code : ErrCode) : (fatalRegs c code).refSize = c.refSize := rfl
@[simp] theorem fatalRegs_refImage (c : CtlRegs) (code : ErrCode) : (fatalRegs c code).refImage = c.refImage := rfl
@[simp] theorem fatalRegs_runErr (c : CtlRegs) (code : ErrCode) : (fatalRegs c code).runErr = c.runErr := rfl
@[simp] theorem fatalRegs_fatalCode (c : CtlRegs) (code : ErrCode) : (fatalRegs c code).fatalCode = code := rfl
@[simp] theorem fatalRegs_muxAddr (c : CtlRegs) (code : ErrCode) : (fatalRegs c code).muxAddr = c.muxAddr := rfl

@[simp] theorem clearRunError_slot (c : CtlRegs) : (clearRunError c).slot = c.slot := rfl
@[simp] theorem clearRunError_phase (c : CtlRegs) : (clearRunError c).phase = c.phase := rfl
@[simp] theorem clearRunError_wf (c : CtlRegs) : (clearRunError c).wf = c.wf := rfl
@[simp] theorem clearRunError_cur (c : CtlRegs) : (clearRunError c).cur = c.cur := rfl
@[simp] theorem clearRunError_settleCtr (c : CtlRegs) : (clearRunError c).settleCtr = c.settleCtr := rfl
@[simp] theorem clearRunError_gerr (c : CtlRegs) : (clearRunError c).gerr = false := rfl
@[simp] theorem clearRunError_act (c : CtlRegs) : (clearRunError c).act = c.act := rfl
@[simp] theorem clearRunError_refValid (c : CtlRegs) : (clearRunError c).refValid = c.refValid := rfl
@[simp] theorem clearRunError_refSize (c : CtlRegs) : (clearRunError c).refSize = c.refSize := rfl
@[simp] theorem clearRunError_refImage (c : CtlRegs) : (clearRunError c).refImage = c.refImage := rfl
@[simp] theorem clearRunError_runErr (c : CtlRegs) : (clearRunError c).runErr = .ok := rfl
@[simp] theorem clearRunError_fatalCode (c : CtlRegs) : (clearRunError c).fatalCode = c.fatalCode := rfl
@[simp] theorem clearRunError_muxAddr (c : CtlRegs) : (clearRunError c).muxAddr = c.muxAddr := rfl

@[simp] theorem endWorkflow_slot (c : CtlRegs) : (endWorkflow c).slot = c.slot := rfl
@[simp] theorem endWorkflow_phase (c : CtlRegs) : (endWorkflow c).phase = .idle := rfl
@[simp] theorem endWorkflow_wf (c : CtlRegs) : (endWorkflow c).wf = .none := rfl
@[simp] theorem endWorkflow_cur (c : CtlRegs) : (endWorkflow c).cur = c.cur := rfl
@[simp] theorem endWorkflow_settleCtr (c : CtlRegs) : (endWorkflow c).settleCtr = c.settleCtr := rfl
@[simp] theorem endWorkflow_gerr (c : CtlRegs) : (endWorkflow c).gerr = c.gerr := rfl
@[simp] theorem endWorkflow_act (c : CtlRegs) : (endWorkflow c).act = c.act := rfl
@[simp] theorem endWorkflow_refValid (c : CtlRegs) : (endWorkflow c).refValid = c.refValid := rfl
@[simp] theorem endWorkflow_refSize (c : CtlRegs) : (endWorkflow c).refSize = c.refSize := rfl
@[simp] theorem endWorkflow_refImage (c : CtlRegs) : (endWorkflow c).refImage = none := rfl
@[simp] theorem endWorkflow_runErr (c : CtlRegs) : (endWorkflow c).runErr = c.runErr := rfl
@[simp] theorem endWorkflow_fatalCode (c : CtlRegs) : (endWorkflow c).fatalCode = c.fatalCode := rfl
@[simp] theorem endWorkflow_muxAddr (c : CtlRegs) : (endWorkflow c).muxAddr = c.muxAddr := rfl

@[simp] theorem State.quiet_quiet (s : State) : s.quiet.quiet = s.quiet := rfl
@[simp] theorem State.withCtl_withCtl (s : State) (c d : CtlRegs) : (s.withCtl c).withCtl d = s.withCtl d := rfl
@[simp] theorem State.withCtl_self (s : State) : s.withCtl s.ctl = s := rfl

end Sys2Proof.Machine
end

