-- ==== Sys2Proof/Laws/Ops.lean ====
section
/-! SUPPORT. For each shared operation, once, everything it can do: the provers cite these instead of unfolding it. -/

namespace Sys2Proof.Machine

/-! ### Records and lamps -/

theorem slotOfNat_some {n : Nat} {i : Slot} : slotOfNat n = some i ↔ i.val = n := by
  unfold slotOfNat
  split
  · simp [Fin.ext_iff, eq_comm]
  · simp; omega

theorem slotOfNat_none {n : Nat} : slotOfNat n = none ↔ 16 ≤ n := by
  unfold slotOfNat
  split <;> simp <;> omega

/-- A record written is the one read back, and no other record is touched. -/
theorem setRecord_at (c : CtlRegs) (i j : Slot) (r : SlotState) :
    recordAt (setRecord c i r) j = if i = j then r else recordAt c j := by
  simp [recordAt, Vector.getElem_set, Fin.ext_iff]

@[simp] theorem setRecord_at_self (c : CtlRegs) (i : Slot) (r : SlotState) : recordAt (setRecord c i r) i = r := by
  simp [setRecord_at]

@[simp] theorem setRecord_at_other (c : CtlRegs) {i j : Slot} (r : SlotState) (h : i ≠ j) :
    recordAt (setRecord c i r) j = recordAt c j := by
  simp [setRecord_at, h]

/-- A write to slot `cur`, in both cases: the record exists, or nothing is written (log entry 12). -/
theorem setCurRecord_cases (c : CtlRegs) (f : SlotState → SlotState) :
    (∃ i : Slot, i.val = c.cur.toNat ∧ setCurRecord c f = setRecord c i (f (recordAt c i))) ∨
    (16 ≤ c.cur.toNat ∧ setCurRecord c f = c) := by
  unfold setCurRecord curSlot
  cases h : slotOfNat c.cur.toNat with
  | none => exact .inr ⟨slotOfNat_none.mp h, rfl⟩
  | some i => exact .inl ⟨i, slotOfNat_some.mp h, rfl⟩

/-- A write to slot `cur` where `cur` names slot `i`. -/
theorem setCurRecord_of_slot {c : CtlRegs} {i : Slot} (h : i.val = c.cur.toNat) (f : SlotState → SlotState) :
    setCurRecord c f = setRecord c i (f (recordAt c i)) := by
  simp only [setCurRecord, curSlot, slotOfNat_some.mpr h]

/-- A write to slot `cur` where `cur` names no slot (log entry 12). -/
theorem setCurRecord_beyond {c : CtlRegs} (h : 16 ≤ c.cur.toNat) (f : SlotState → SlotState) : setCurRecord c f = c := by
  simp only [setCurRecord, curSlot, slotOfNat_none.mpr h]

/-- A write to slot `cur` changes the record array only. -/
theorem setCurRecord_eq (c : CtlRegs) (f : SlotState → SlotState) : setCurRecord c f = { c with slot := (setCurRecord c f).slot } := by
  rcases setCurRecord_cases c f with ⟨_, _, e⟩ | ⟨_, e⟩
  · rw [e]; rfl
  · rw [e]

/-- The test of NEXT on a number that names slot `i` (44 R181). -/
theorem slotMatches_of_slot (c : CtlRegs) {i : Slot} {n : Nat} (h : i.val = n) :
    slotMatches c n = decide ((recordAt c i).sizeMatch = .matching) := by
  simp only [slotMatches, slotOfNat_some.mpr h]

/-- A number that fits 5 bits is held by `cur` as it is. -/
theorem curOfNat_toNat {n : Nat} (h : n < 32) : (curOfNat n).toNat = n := by
  simp only [curOfNat, if_pos h, BitVec.toNat_ofNat]
  omega

/-- Two register sets with one record array have the same records. -/
theorem recordAt_congr {c d : CtlRegs} (h : c.slot = d.slot) (i : Slot) : recordAt c i = recordAt d i := by
  simp only [recordAt, h]

/-- Writing other registers leaves the records. -/
@[simp] theorem recordAt_mk (c : CtlRegs) (i : Slot) (phase : Phase) (wf : Workflow) (cur : BitVec 5) (settleCtr : BitVec 16)
    (gerr act refValid : Bool) (refSize : ChipSize) (refImage : Option RefImage) (runErr fatalCode : ErrCode) (muxAddr : BitVec 4) :
    recordAt { slot := c.slot, phase, wf, cur, settleCtr, gerr, act, refValid, refSize, refImage, runErr, fatalCode, muxAddr } i =
      recordAt c i := rfl

/-- A record written together with other registers is the one read back, and no other record is touched. -/
@[simp] theorem recordAt_set_mk (c : CtlRegs) (i j : Slot) (r : SlotState) (phase : Phase) (wf : Workflow) (cur : BitVec 5)
    (settleCtr : BitVec 16) (gerr act refValid : Bool) (refSize : ChipSize) (refImage : Option RefImage)
    (runErr fatalCode : ErrCode) (muxAddr : BitVec 4) :
    recordAt { slot := c.slot.set i r, phase, wf, cur, settleCtr, gerr, act, refValid, refSize, refImage, runErr, fatalCode,
               muxAddr } j = if i = j then r else recordAt c j := by
  simp [recordAt, Vector.getElem_set, Fin.ext_iff]

/-- Writing other registers leaves the phase counters. -/
@[simp] theorem lampAt_mk (d : SchedRegs) (i : Slot) (bootCtr : BitVec 5) (bootDone : Bool) (ledVisible : Pattern) :
    lampAt { lamp := d.lamp, bootCtr, bootDone, ledVisible } i = lampAt d i := rfl

/-- REDERIVE, one record at a time (44 R173). -/
@[simp] theorem rederive_at (c : CtlRegs) (i : Slot) : recordAt (rederive c) i = relamp (recordAt c i) (ctxOf c i) := by
  simp [rederive, recordAt]

@[simp] theorem endWorkflow_at (c : CtlRegs) (i : Slot) : recordAt (endWorkflow c) i = recordAt c i := rfl
@[simp] theorem clearRunError_at (c : CtlRegs) (i : Slot) : recordAt (clearRunError c) i = recordAt c i := rfl
@[simp] theorem fatalRegs_at (c : CtlRegs) (code : ErrCode) (i : Slot) : recordAt (fatalRegs c code) i = recordAt c i := rfl

@[simp] theorem slotDone_at (c : CtlRegs) (i : Slot) : recordAt (slotDone c) i = relamp (recordAt c i) (ctxOf c i) :=
  rederive_at c i

/-- A new record array is read back as it was built. -/
@[simp] theorem recordAt_ofFn (c : CtlRegs) (f : Slot → SlotState) (i : Slot) :
    recordAt { c with slot := Vector.ofFn f } i = f i := by
  simp [recordAt]

/-- A new array of phase counters is read back as it was built. -/
@[simp] theorem lampAt_ofFn (d : SchedRegs) (f : Slot → LampPhase) (i : Slot) :
    lampAt { d with lamp := Vector.ofFn f } i = f i := by
  simp [lampAt]

/-- A phase counter written is the one read back, and no other is touched. -/
theorem lampAt_set (d : SchedRegs) (i j : Slot) (p : LampPhase) :
    lampAt { d with lamp := d.lamp.set i p } j = if i = j then p else lampAt d j := by
  simp [lampAt, Vector.getElem_set, Fin.ext_iff]

@[simp] theorem relamp_presence (r : SlotState) (x : LedCtx) : (relamp r x).presence = r.presence := rfl
@[simp] theorem relamp_sizeMatch (r : SlotState) (x : LedCtx) : (relamp r x).sizeMatch = r.sizeMatch := rfl
@[simp] theorem relamp_lastOpResult (r : SlotState) (x : LedCtx) : (relamp r x).lastOpResult = r.lastOpResult := rfl
@[simp] theorem relamp_ledMode (r : SlotState) (x : LedCtx) :
    (relamp r x).ledMode = ledModeOf r.presence r.sizeMatch r.lastOpResult x := rfl

/-- ABORT makes every lamp mode `fastBlink` and touches nothing else of a record (44 R182). -/
@[simp] theorem abortRegs_at (c : CtlRegs) (code : ErrCode) (i : Slot) :
    recordAt (abortRegs c code) i = { recordAt c i with ledMode := .fastBlink } := by
  simp [abortRegs, rederive, relamp, ctxOf, ledModeOf, recordAt]

/-- CTX in its three cases (44 R173). -/
theorem ctxOf_cases (c : CtlRegs) (i : Slot) :
    (c.gerr = true ∧ ctxOf c i = .gerr) ∨
    (c.gerr = false ∧ c.act = true ∧ i.val = c.cur.toNat ∧ ctxOf c i = .act) ∨
    (c.gerr = false ∧ ¬ (c.act = true ∧ i.val = c.cur.toNat) ∧ ctxOf c i = .norm) := by
  unfold ctxOf
  cases hg : c.gerr <;> simp
  by_cases h : c.act = true ∧ i.val = c.cur.toNat <;> simp [h]
  all_goals tauto

/-! ### Running and stopped -/

/-- Outside FATAL an agent runs. -/
theorem whileRunning_of_ne {s : State} {k : State → Host.Outcome State Fault Refusal} (h : s.ctl.phase ≠ .fatal) :
    whileRunning s k = k s.quiet := if_neg h

/-- In FATAL nothing but the end of the pulses happens (60 R280). -/
theorem whileRunning_of_fatal {s : State} {k : State → Host.Outcome State Fault Refusal} (h : s.ctl.phase = .fatal) :
    whileRunning s k = .next s.quiet := if_pos h

/-- Everything an operation of a running agent can answer. -/
theorem whileRunning_next {s t : State} {k : State → Host.Outcome State Fault Refusal} (h : whileRunning s k = .next t) :
    (s.ctl.phase = .fatal ∧ t = s.quiet) ∨ (s.ctl.phase ≠ .fatal ∧ k s.quiet = .next t) := by
  by_cases hp : s.ctl.phase = .fatal
  · rw [whileRunning_of_fatal hp] at h
    exact .inl ⟨hp, by cases h; rfl⟩
  · rw [whileRunning_of_ne hp] at h
    exact .inr ⟨hp, h⟩

/-! ### select -/

/-- Everything `select` and what follows it can answer (40 R110, R112). -/
theorem selectThen_next {s t : State} {n : Nat} {k : State → Host.Outcome State Fault Refusal} (h : selectThen s n k = .next t) :
    (15 < n ∧ t = s.withCtl (fatalRegs s.ctl .addressOutOfRange)) ∨
    (n ≤ 15 ∧ k (s.withCtl { s.ctl with muxAddr := BitVec.ofNat 4 n }) = .next t) := by
  unfold selectThen at h
  split at h
  · next hn => exact .inl ⟨hn, by cases h; rfl⟩
  · next hn => exact .inr ⟨by omega, h⟩

/-! ### Output events -/

/-- A command changes the pins and the phase, nothing else (47 R252). -/
theorem issueCommand_eq (s : State) (cmd : FaCmd) :
    issueCommand s cmd =
      { s with ctl := { s.ctl with phase := commandPhase s.ctl.phase cmd },
               out := { s.out with faReq := true, faCmd := cmd, faImage := commandImage s.ctl cmd } } := rfl

/-- STORE changes the pins only (47 R259). -/
theorem emitStore_eq (s : State) :
    emitStore s = { s with out := { s.out with archReq := true, archImage := s.ctl.refImage } } := rfl

/-- RENDER changes the latch and its pulse only (41 R120). -/
theorem renderPattern_eq (s : State) (p : Pattern) :
    renderPattern s p = { s with sched := { s.sched with ledVisible := p }, out := { s.out with latch := true } } := rfl

/-! ### BLINK -/

/-- Both cases of a blinking mode (42 R135, R136). -/
theorem blinkEvery_cases (n : Nat) (p : LampPhase) :
    (n ≤ p.cnt.toNat + 1 ∧ blinkEvery n p = { cnt := 0, lvl := !p.lvl }) ∨
    (p.cnt.toNat + 1 < n ∧ blinkEvery n p = { cnt := p.cnt + 1, lvl := p.lvl }) := by
  unfold blinkEvery
  by_cases h : n ≤ p.cnt.toNat + 1
  · exact .inl ⟨h, if_pos h⟩
  · exact .inr ⟨by omega, if_neg h⟩

/-- A blinking mode's count stays below its period, where it was below 256. -/
theorem blinkEvery_cnt_lt (n : Nat) (p : LampPhase) (hn : 0 < n) : (blinkEvery n p).cnt.toNat < n := by
  rcases blinkEvery_cases n p with ⟨_, e⟩ | ⟨h, e⟩
  · simpa [e] using hn
  · have := p.cnt.isLt
    have h1 : (1 : BitVec 8).toNat = 1 := rfl
    simp only [e, BitVec.toNat_add, h1]
    omega

/-- One BLINK step leaves the count below N_SLOW (42 R139). -/
theorem blink_cnt_lt (m : LedMode) (p : LampPhase) : (blink m p).cnt.toNat < Config.nSlow := by
  cases m
  · simp [blink, blinkOff, Config.nSlow]
  · simp [blink, blinkOn, Config.nSlow]
  · exact blinkEvery_cnt_lt _ _ (by decide)
  · exact lt_trans (blinkEvery_cnt_lt Config.mFast p (by decide)) (by decide)
  · simp [blink, blinkData, Config.nSlow]

/-- The rendered pattern, one lamp at a time (42 R130). -/
theorem lampPattern_get (lamp : Vector LampPhase 16) (i : Slot) : (lampPattern lamp)[i] = lamp[i].lvl := by
  simp [lampPattern]

/-! ### The step -/

/-- Everything a step can answer. -/
theorem step_next {s t : State} (h : step s = .next t) : ∃ i, decode (fetch s) = .ok i ∧ exec i (advance s) = .next t := by
  unfold step at h
  split at h
  · simp [refuseIllFormed] at h
  · next i hi => exact ⟨i, hi, h⟩

end Sys2Proof.Machine
end

