-- ==== Sys2Proof/Laws/PerInstr.lean ====
section
/-! SUPPORT. The family EncodingFits of LAWS.json: one lemma per constructor of `Instr`. -/

namespace Sys2Proof.Laws

/-- The selector width of the format whose codes stand on a port (30_encoding R94). -/
def selectorWidth : Port → Nat
  | .stimulus => 40
  | .phase => 4
  | .ledMode => 3
  | .debounce => 3
  | .faCmd => 3
  | .muxAddr => 4
  | .stIdx => 4
  | .archReq => 1
  | .srLatch => 1

/-- The code of a well-formed instruction fits the selector width that 30_encoding R94 gives its format. -/
def EncodingFits.Statement (i : Instr) : Prop :=
  i.wellFormed = true → (encode i).code.toNat < 2 ^ selectorWidth (encode i).port

/-- A code of `n` bits, zero-extended to a stimulus word, fits `n` bits. -/
theorem setWidth_fits {n : Nat} (c : BitVec n) (h : n ≤ 40) : (c.setWidth 40).toNat < 2 ^ n := by
  rw [BitVec.toNat_setWidth, Nat.mod_eq_of_lt]
  · exact c.isLt
  · exact lt_of_lt_of_le c.isLt (Nat.pow_le_pow_right (by decide) h)

theorem EncodingFits.reset (dip : BitVec 32) (resOk : Bool) : EncodingFits.Statement (.reset dip resOk) :=
  fun _ => (encode (.reset dip resOk)).code.isLt
theorem EncodingFits.ctl : EncodingFits.Statement (.ctl) := fun _ => (encode (.ctl)).code.isLt
theorem EncodingFits.tick : EncodingFits.Statement (.tick) := fun _ => (encode (.tick)).code.isLt
theorem EncodingFits.sample (rC rW : Bool) : EncodingFits.Statement (.sample rC rW) := fun _ => (encode (.sample rC rW)).code.isLt
theorem EncodingFits.rsp (r : Rsp) : EncodingFits.Statement (.rsp r) := fun _ => (encode (.rsp r)).code.isLt
theorem EncodingFits.phBoot (e : CtlEvent) : EncodingFits.Statement (.phBoot e) :=
  fun _ => setWidth_fits (Phase.code .boot) (by decide)
theorem EncodingFits.phIdle (e : CtlEvent) : EncodingFits.Statement (.phIdle e) :=
  fun _ => setWidth_fits (Phase.code .idle) (by decide)
theorem EncodingFits.phStart (e : CtlEvent) : EncodingFits.Statement (.phStart e) :=
  fun _ => setWidth_fits (Phase.code .start) (by decide)
theorem EncodingFits.phSelect (e : CtlEvent) : EncodingFits.Statement (.phSelect e) :=
  fun _ => setWidth_fits (Phase.code .select) (by decide)
theorem EncodingFits.phSettle (e : CtlEvent) : EncodingFits.Statement (.phSettle e) :=
  fun _ => setWidth_fits (Phase.code .settle) (by decide)
theorem EncodingFits.phDetect (e : CtlEvent) : EncodingFits.Statement (.phDetect e) :=
  fun _ => setWidth_fits (Phase.code .detect) (by decide)
theorem EncodingFits.phRead (e : CtlEvent) : EncodingFits.Statement (.phRead e) :=
  fun _ => setWidth_fits (Phase.code .read) (by decide)
theorem EncodingFits.phArchive (e : CtlEvent) : EncodingFits.Statement (.phArchive e) :=
  fun _ => setWidth_fits (Phase.code .archive) (by decide)
theorem EncodingFits.phWrite (e : CtlEvent) : EncodingFits.Statement (.phWrite e) :=
  fun _ => setWidth_fits (Phase.code .write) (by decide)
theorem EncodingFits.phVerify (e : CtlEvent) : EncodingFits.Statement (.phVerify e) :=
  fun _ => setWidth_fits (Phase.code .verify) (by decide)
theorem EncodingFits.phNext (e : CtlEvent) : EncodingFits.Statement (.phNext e) :=
  fun _ => setWidth_fits (Phase.code .next) (by decide)
theorem EncodingFits.phFatal (e : CtlEvent) : EncodingFits.Statement (.phFatal e) :=
  fun _ => setWidth_fits (Phase.code .fatal) (by decide)
theorem EncodingFits.blOff (i : Slot) : EncodingFits.Statement (.blOff i) :=
  fun _ => setWidth_fits (LedMode.code .off) (by decide)
theorem EncodingFits.blOn (i : Slot) : EncodingFits.Statement (.blOn i) := fun _ => setWidth_fits (LedMode.code .on) (by decide)
theorem EncodingFits.blSlow (i : Slot) : EncodingFits.Statement (.blSlow i) :=
  fun _ => setWidth_fits (LedMode.code .slowBlink) (by decide)
theorem EncodingFits.blFast (i : Slot) : EncodingFits.Statement (.blFast i) :=
  fun _ => setWidth_fits (LedMode.code .fastBlink) (by decide)
theorem EncodingFits.blData (i : Slot) : EncodingFits.Statement (.blData i) :=
  fun _ => setWidth_fits (LedMode.code .dataActivity) (by decide)
theorem EncodingFits.dbIdle (b : Button) (r : Bool) : EncodingFits.Statement (.dbIdle b r) :=
  fun _ => setWidth_fits (DbState.code .idle ++ BitVec.ofBool r) (by decide)
theorem EncodingFits.dbPend (b : Button) (r : Bool) : EncodingFits.Statement (.dbPend b r) :=
  fun _ => setWidth_fits (DbState.code .pressedPending ++ BitVec.ofBool r) (by decide)
theorem EncodingFits.dbConf (b : Button) (r : Bool) : EncodingFits.Statement (.dbConf b r) :=
  fun _ => setWidth_fits (DbState.code .pressedConfirmed ++ BitVec.ofBool r) (by decide)
theorem EncodingFits.dbRel (b : Button) (r : Bool) : EncodingFits.Statement (.dbRel b r) :=
  fun _ => setWidth_fits (DbState.code .released ++ BitVec.ofBool r) (by decide)
theorem EncodingFits.detect : EncodingFits.Statement (.detect) := fun _ => setWidth_fits (FaCmd.code .detect) (by decide)
theorem EncodingFits.read : EncodingFits.Statement (.read) := fun _ => setWidth_fits (FaCmd.code .read) (by decide)
theorem EncodingFits.write : EncodingFits.Statement (.write) := fun _ => setWidth_fits (FaCmd.code .write) (by decide)
theorem EncodingFits.verify : EncodingFits.Statement (.verify) := fun _ => setWidth_fits (FaCmd.code .verify) (by decide)
theorem EncodingFits.select (s : BitVec 5) : EncodingFits.Statement (.select s) := fun h => by
  have h16 : s.toNat < 16 := of_decide_eq_true h
  simp only [encode, selectorWidth, BitVec.toNat_setWidth]
  omega
theorem EncodingFits.stat (i : BitVec 4) : EncodingFits.Statement (.stat i) := fun _ => setWidth_fits i (by decide)
theorem EncodingFits.store : EncodingFits.Statement (.store) := fun _ => by decide
theorem EncodingFits.render (p : Pattern) : EncodingFits.Statement (.render p) := fun _ => show (1 : StimWord).toNat < 2 ^ 1 by decide

end Sys2Proof.Laws
end

