-- ==== Sys2Proof/Laws/Phases.lean ====
section
/-! SUPPORT. CTL and RSP, one equation per phase, and what each phase function can do: the provers cite these instead of unfolding. -/

namespace Sys2Proof.Machine

/-! ### CTL, phase by phase (44 R171) -/

theorem execCtl_boot {s : State} (h : s.ctl.phase = .boot) : exec .ctl s = .next (bootOnCtl s.quiet) := by
  simp [exec, execCtl, whileRunning, h, State.quiet, State.withOut]

theorem execCtl_idle {s : State} (h : s.ctl.phase = .idle) : exec .ctl s = .next s.quiet := by
  simp [exec, execCtl, whileRunning, h, State.quiet, State.withOut]

theorem execCtl_start {s : State} (h : s.ctl.phase = .start) : exec .ctl s = .next (startOnCtl s.quiet) := by
  simp [exec, execCtl, whileRunning, h, State.quiet, State.withOut]

theorem execCtl_select {s : State} (h : s.ctl.phase = .select) : exec .ctl s = selectOnCtl s.quiet := by
  simp [exec, execCtl, whileRunning, h, State.quiet, State.withOut]

theorem execCtl_settle {s : State} (h : s.ctl.phase = .settle) : exec .ctl s = .next (settleOnCtl s.quiet) := by
  simp [exec, execCtl, whileRunning, h, State.quiet, State.withOut]

theorem execCtl_archive {s : State} (h : s.ctl.phase = .archive) : exec .ctl s = .next (archiveOnCtl s.quiet) := by
  simp [exec, execCtl, whileRunning, h, State.quiet, State.withOut]

theorem execCtl_next {s : State} (h : s.ctl.phase = .next) : exec .ctl s = .next (nextOnCtl s.quiet) := by
  simp [exec, execCtl, whileRunning, h, State.quiet, State.withOut]

/-! ### RSP, phase by phase (44 R172) -/

theorem execRsp_detect {s : State} (r : Rsp) (h : s.ctl.phase = .detect) : exec (.rsp r) s = .next (detectOnRsp r s.quiet) := by
  simp [exec, execRsp, whileRunning, h, State.quiet, State.withOut]

theorem execRsp_read {s : State} (r : Rsp) (h : s.ctl.phase = .read) : exec (.rsp r) s = .next (readOnRsp r s.quiet) := by
  simp [exec, execRsp, whileRunning, h, State.quiet, State.withOut]

theorem execRsp_write {s : State} (r : Rsp) (h : s.ctl.phase = .write) : exec (.rsp r) s = .next (writeOnRsp r s.quiet) := by
  simp [exec, execRsp, whileRunning, h, State.quiet, State.withOut]

theorem execRsp_verify {s : State} (r : Rsp) (h : s.ctl.phase = .verify) : exec (.rsp r) s = .next (verifyOnRsp r s.quiet) := by
  simp [exec, execRsp, whileRunning, h, State.quiet, State.withOut]

/-! ### What a phase can do -/

/-- SELECT loads the counter and goes to SETTLE; for a target of a WRITE it sets `act` and re-derives the lamps (44 R178). -/
theorem selectedRegs_cases (c : CtlRegs) (n : BitVec 16) :
    ((c.wf = .write ∧ isTarget c.cur = true) ∧
      selectedRegs c n = { rederive { c with settleCtr := n, act := true } with phase := .settle }) ∨
    (¬ (c.wf = .write ∧ isTarget c.cur = true) ∧ selectedRegs c n = { c with settleCtr := n, phase := .settle }) := by
  by_cases h : c.wf = .write ∧ isTarget c.cur = true
  · exact .inl ⟨h, if_pos h⟩
  · exact .inr ⟨h, if_neg h⟩

/-- SELECT of a slot that exists goes to SETTLE with the counter loaded, on that slot (44 R178). -/
theorem selectOnCtl_settles {s : State} (h : s.ctl.cur.toNat ≤ 15) :
    ∃ u, selectOnCtl s = .next u ∧ u.ctl.phase = .settle ∧ u.ctl.settleCtr = s.tSettle ∧ u.ctl.cur = s.ctl.cur ∧
      u.tSettle = s.tSettle := by
  refine ⟨_, if_neg (by omega), ?_⟩
  simp only [State.withCtl]
  rcases selectedRegs_cases { s.ctl with muxAddr := BitVec.ofNat 4 s.ctl.cur.toNat } s.tSettle with ⟨_, e⟩ | ⟨_, e⟩
  · rw [e]; exact ⟨rfl, rfl, rfl, trivial⟩
  · rw [e]; exact ⟨rfl, rfl, rfl, trivial⟩

/-- SETTLE counts, or issues DETECT or WRITE (44 R179). -/
theorem settleOnCtl_cases (s : State) :
    (s.ctl.settleCtr ≠ 0 ∧ settleOnCtl s = s.withCtl { s.ctl with settleCtr := s.ctl.settleCtr - 1 }) ∨
    (∃ cmd, (cmd = .detect ∨ cmd = .write) ∧ settleOnCtl s = issueCommand s cmd) := by
  unfold settleOnCtl
  split
  · next h => exact .inl ⟨h, rfl⟩
  · split
    · exact .inr ⟨_, .inl rfl, rfl⟩
    · exact .inr ⟨_, .inr rfl, rfl⟩

/-- NEXT ends the workflow after slot 15, and else moves on and selects or skips (44 R181). -/
theorem nextOnCtl_cases (s : State) :
    (s.ctl.cur.toNat = 15 ∧ nextOnCtl s = s.withCtl (endWorkflow s.ctl)) ∨
    (s.ctl.cur.toNat ≠ 15 ∧ ∃ p, (p = .select ∨ p = .next) ∧
      nextOnCtl s = s.withCtl { s.ctl with cur := curOfNat (s.ctl.cur.toNat + 1), phase := p }) := by
  unfold nextOnCtl
  by_cases h : s.ctl.cur.toNat + 1 = 16
  · exact .inl ⟨by omega, if_pos h⟩
  · refine .inr ⟨by omega, _, ?_, if_neg h⟩
    split
    · exact .inl rfl
    · exact .inr rfl

end Sys2Proof.Machine
end

