-- ==== Sys2Proof/Laws/Safety.lean ====
section
/-! SUPPORT. What the shared operations give in the terms of Sys2Proof/Safety.lean: derived lamps, records kept, frames. -/

namespace Sys2Proof

open Sys2Proof.Machine

/-! ### Derived lamps -/

/-- Whether the lamps are derived is a matter of the record array and of what CTX reads. -/
theorem lampsDerived_congr {c d : CtlRegs} (hs : d.slot = c.slot) (hg : d.gerr = c.gerr) (ha : d.act = c.act) (hc : d.cur = c.cur)
    (h : lampsDerived c) : lampsDerived d := by
  intro i
  have e : ctxOf d i = ctxOf c i := by simp only [ctxOf, hg, ha, hc]
  rw [recordAt_congr hs, e]
  exact h i

/-- REDERIVE derives the lamps (44 R173). -/
theorem lampsDerived_rederive (c : CtlRegs) : lampsDerived (rederive c) := by
  intro i
  rw [rederive_at]
  rfl

theorem lampsDerived_phase (c : CtlRegs) (p : Phase) (h : lampsDerived c) : lampsDerived { c with phase := p } :=
  lampsDerived_congr (c := c) rfl rfl rfl rfl h

theorem lampsDerived_slotDone (c : CtlRegs) : lampsDerived (slotDone c) :=
  lampsDerived_phase _ _ (lampsDerived_rederive c)

theorem lampsDerived_abortRegs (c : CtlRegs) (code : ErrCode) : lampsDerived (abortRegs c code) :=
  lampsDerived_rederive _

/-! ### Records kept -/

@[simp] theorem sameStatus_relamp (r : SlotState) (x : LedCtx) : sameStatus r (relamp r x) := ⟨rfl, rfl, rfl⟩

theorem sameStatus_refl (r : SlotState) : sameStatus r r := ⟨rfl, rfl, rfl⟩

/-- REDERIVE after a write of record `i` keeps the status of every other record. -/
theorem otherStatus_rederive_setRecord (c d : CtlRegs) (i : Slot) (r : SlotState) (h : d.slot = (setRecord c i r).slot) :
    otherStatus c (rederive d) i := by
  intro j hj
  rw [rederive_at, recordAt_congr h, setRecord_at_other c r (Ne.symm hj)]
  exact sameStatus_relamp _ _

/-! ### Sequences -/

@[simp] theorem runInstrs_nil (s : State) : runInstrs [] s = .next s := rfl

theorem runInstrs_cons {i : Instr} {is : List Instr} {s t : State} (h : exec i s = .next t) :
    runInstrs (i :: is) s = runInstrs is t := by
  simp only [runInstrs, h]

/-- A run of two sequences is the second from where the first ends. -/
theorem runInstrs_append {is js : List Instr} {s t : State} (h : runInstrs is s = .next t) :
    runInstrs (is ++ js) s = runInstrs js t := by
  induction is generalizing s with
  | nil => cases h; rfl
  | cons i is ih =>
    simp only [List.cons_append, runInstrs] at h ⊢
    split <;> simp_all

/-- Everything a run of a non-empty sequence can answer. -/
theorem runInstrs_cons_next {i : Instr} {is : List Instr} {s t : State} (h : runInstrs (i :: is) s = .next t) :
    ∃ u, exec i s = .next u ∧ runInstrs is u = .next t := by
  simp only [runInstrs] at h
  split at h <;> simp_all

end Sys2Proof
end

