-- ==== Sys2Proof/Laws/Script.lean ====
section
/-! SUPPORT. RUN (30_encoding R99): the function agrees with the unbounded RUN, and it answers from every state with `cur <= 15`. -/

namespace Sys2Proof.Machine

/-- RUN ends where it stops. -/
theorem RunsTo.stops {s t : State} (h : RunsTo s t) : runStops t = true := by
  induction h with
  | stop h => exact h
  | ctl _ _ _ ih => exact ih

/-- RUN ends in one state only. -/
theorem RunsTo.unique {s t t' : State} (h : RunsTo s t) (h' : RunsTo s t') : t = t' := by
  induction h with
  | stop h =>
    cases h' with
    | stop => rfl
    | ctl h2 => simp [h] at h2
  | ctl h hu _ ih =>
    cases h' with
    | stop h2 => simp [h] at h2
    | ctl _ hu2 ht2 =>
      rw [hu] at hu2
      cases hu2
      exact ih ht2

/-- What the bounded run answers is where RUN ends. -/
theorem runCtl_runsTo {n : Nat} {s t : State} (h : runCtl n s = some t) : RunsTo s t := by
  induction n generalizing s with
  | zero =>
    simp only [runCtl] at h
    split at h
    · next hs => cases h; exact .stop hs
    · cases h
  | succ n ih =>
    simp only [runCtl] at h
    split at h
    · next hs => cases h; exact .stop hs
    · next hs =>
      split at h
      · next u hu => exact .ctl (by simpa using hs) hu (ih h)
      · cases h
      · cases h

/-- How many CTL events RUN still takes, at most. -/
def runMeasure (s : State) : Nat :=
  match s.ctl.phase with
  | .boot => 1
  | .start => s.tSettle.toNat + 3
  | .select => s.tSettle.toNat + 2
  | .settle => s.ctl.settleCtr.toNat + 1
  | .archive => s.tSettle.toNat + 19 - s.ctl.cur.toNat
  | .next => s.tSettle.toNat + 18 - s.ctl.cur.toNat
  | .idle => 0
  | .detect => 0
  | .read => 0
  | .write => 0
  | .verify => 0
  | .fatal => 0

theorem runMeasure_le_runFuel (s : State) : runMeasure s ≤ runFuel s := by
  unfold runMeasure runFuel
  split <;> omega

/-- A CTL that RUN takes leaves fewer to take. -/
theorem ctl_runMeasure {s : State} (hc : s.ctl.cur.toNat ≤ 15) (hr : runStops s = false) :
    ∃ u, exec .ctl s = .next u ∧ u.ctl.cur.toNat ≤ 15 ∧ runMeasure u < runMeasure s := by
  cases hp : s.ctl.phase
  case boot =>
    have hb : s.sched.bootDone = true := by simpa [runStops, isWait, hp] using hr
    refine ⟨s.quiet.toPhase .idle, ?_, hc, ?_⟩
    · rw [execCtl_boot hp, bootOnCtl, if_pos (show s.quiet.sched.bootDone = true from hb)]
    · simp only [runMeasure, hp]
      exact Nat.zero_lt_one
  case start =>
    refine ⟨_, execCtl_start hp, Nat.zero_le _, ?_⟩
    simp only [runMeasure, hp]
    exact Nat.lt_succ_self _
  case select =>
    obtain ⟨u, hu, h1, h2, h3, h4⟩ := selectOnCtl_settles (s := s.quiet) hc
    refine ⟨u, by rw [execCtl_select hp, hu], by rw [h3]; exact hc, ?_⟩
    simp only [runMeasure, hp, h1, h2]
    exact Nat.lt_succ_self _
  case settle =>
    refine ⟨_, execCtl_settle hp, ?_⟩
    rcases settleOnCtl_cases s.quiet with ⟨h, e⟩ | ⟨cmd, h, e⟩
    · have h0 : s.ctl.settleCtr ≠ 0 := h
      have hpos : s.ctl.settleCtr.toNat ≠ 0 := fun e => h0 (BitVec.eq_of_toNat_eq e)
      have hlt := s.ctl.settleCtr.isLt
      rw [e]
      refine ⟨hc, ?_⟩
      show runMeasure (s.quiet.withCtl { s.ctl with settleCtr := s.ctl.settleCtr - 1 }) < _
      have h1 : (1 : BitVec 16).toNat = 1 := rfl
      simp only [runMeasure, hp, State.withCtl, BitVec.toNat_sub, h1]
      omega
    · rw [e]
      refine ⟨hc, ?_⟩
      rcases h with rfl | rfl <;> simp [runMeasure, hp, issueCommand_eq, commandPhase]
  case archive =>
    refine ⟨_, execCtl_archive hp, hc, ?_⟩
    show runMeasure (archiveOnCtl s.quiet) < _
    simp only [runMeasure, hp, archiveOnCtl, State.toPhase, State.withCtl, emitStore_eq, State.quiet, State.withOut]
    omega
  case next =>
    refine ⟨_, execCtl_next hp, ?_⟩
    rcases nextOnCtl_cases s.quiet with ⟨h, e⟩ | ⟨h, p, h2, e⟩
    · rw [e]
      refine ⟨hc, ?_⟩
      have : s.ctl.cur.toNat = 15 := h
      simp only [runMeasure, hp, State.withCtl, endWorkflow]
      omega
    · have h15 : s.ctl.cur.toNat ≠ 15 := h
      have hcur : (curOfNat (s.ctl.cur.toNat + 1)).toNat = s.ctl.cur.toNat + 1 := curOfNat_toNat (by omega)
      rw [e]
      refine ⟨show (curOfNat (s.ctl.cur.toNat + 1)).toNat ≤ 15 by omega, ?_⟩
      rcases h2 with rfl | rfl
      · show s.tSettle.toNat + 2 < runMeasure s
        simp only [runMeasure, hp]
        omega
      · show s.tSettle.toNat + 18 - (curOfNat (s.ctl.cur.toNat + 1)).toNat < runMeasure s
        simp only [runMeasure, hp, hcur]
        omega
  all_goals simp [runStops, isWait, hp] at hr

/-- With fuel for the measure the bounded run answers. -/
theorem runCtl_complete {n : Nat} {s : State} (hc : s.ctl.cur.toNat ≤ 15) (hn : runMeasure s ≤ n) : ∃ t, runCtl n s = some t := by
  induction n generalizing s with
  | zero =>
    cases hr : runStops s with
    | true => exact ⟨s, by simp [runCtl, hr]⟩
    | false =>
      obtain ⟨u, _, _, hm⟩ := ctl_runMeasure hc hr
      omega
  | succ n ih =>
    cases hr : runStops s with
    | true => exact ⟨s, by simp [runCtl, hr]⟩
    | false =>
      obtain ⟨u, hu, hcu, hm⟩ := ctl_runMeasure hc hr
      obtain ⟨t, ht⟩ := ih hcu (by omega)
      exact ⟨t, by simp [runCtl, hr, hu, ht]⟩

/-- RUN ends from every state with `cur <= 15`, where the function says. -/
theorem scriptRun_spec {s : State} (hc : s.ctl.cur.toNat ≤ 15) : ∃ t, scriptRun s = some t ∧ RunsTo s t := by
  obtain ⟨t, ht⟩ := runCtl_complete hc (runMeasure_le_runFuel s)
  exact ⟨t, ht, runCtl_runsTo ht⟩

end Sys2Proof.Machine
end

