-- ==== Sys2Proof/Machine/Contract.lean ====
section
/-! DEFINITION. What the FlashAdapter's answers are expected to mean (47 R256), as a predicate on the environment. Nothing in the
engine depends on it (47 R257): the step takes every answer. -/

namespace Sys2Proof.Machine

/-- A socket: empty, or a chip with its content in ascending address order (20_memory R63). -/
abbrev Socket := Option (List Byte)

/-- DETECT (47 R256). -/
def detectAnswer (k : Socket) (r : Rsp) : Prop :=
  (match k with
    | none => (r.status = .noChipDetected ∨ r.status = .ok) ∧ r.flag = false
    | some content => r.status = .ok ∧ r.flag = true ∧ r.size.toNat = content.length) ∨
  (r.status ≠ .ok ∧ r.status ≠ .noChipDetected)

/-- READ (47 R256): a success brings the whole content of the chip. For an empty socket the spec gives no case (it states READ by
`len(chip)`): either status is allowed, with any image. DESIGN CHOICE (log entry 26). -/
def readAnswer (k : Socket) (r : Rsp) : Prop :=
  (r.status = .ok ∧ ((∃ content, k = some content ∧ r.image = some content) ∨ k = none)) ∨ r.status = .readFailure

/-- The chip's content is the image wherever both have a byte. -/
def agrees (img : RefImage) (content : List Byte) : Prop :=
  ∀ n : Nat, n < img.bytes.length → n < content.length → content[n]? = img.bytes[n]?

/-- WRITE (47 R256), with the socket before and after: on success the image stands at addresses 0 and up. For an image longer than the
chip, and for an empty socket, the spec does not say what a byte beyond the chip is or whether the command succeeds (70 R325 leaves it
to the adapter): either status is allowed, and an empty socket stays empty. DESIGN CHOICE (log entry 26). -/
def writeAnswer (img : RefImage) (k k' : Socket) (r : Rsp) : Prop :=
  (r.status = .ok ∧
    ((∃ old new, k = some old ∧ k' = some new ∧ new.length = old.length ∧ agrees img new) ∨ (k = none ∧ k' = none))) ∨
  r.status ≠ .ok

/-- VERIFY (47 R256): `matches` compares every byte of the image. For an image longer than the chip the spec gives no value to a byte
beyond the chip: a difference within the chip makes `matches` 0, and with none it is free. An empty socket does not match, for a target
removed since CHECK fails at WRITE or VERIFY (70 R325). DESIGN CHOICE (log entry 26). -/
def verifyAnswer (img : RefImage) (k : Socket) (r : Rsp) : Prop :=
  (r.status = .ok ∧
    ((∃ content, k = some content ∧ (r.flag = true → agrees img content) ∧
        (agrees img content → img.bytes.length ≤ content.length → r.flag = true)) ∨
     (k = none ∧ r.flag = false))) ∨
  r.status = .verifyFailure ∨ r.status = .readFailure

end Sys2Proof.Machine
end

