-- ==== Sys2Proof/Machine/Cycle.lean ====
section
/-! DEFINITION. Clock cycles (10_state R48, 60 R283): which events one cycle of the input pins is, in every order that 00_scope R10
leaves open. -/

namespace Sys2Proof.Machine

/-- The input pins during one cycle (10_state R48). -/
structure CyclePins where
  rst : Bool
  dip : BitVec 32
  resOk : Bool
  tick : Bool
  sample : Bool
  btnCheck : Bool
  btnWrite : Bool
  faRsp : Bool
  faStatus : BitVec 3
  faFlag : Bool
  faSize : ChipSize
  image : Option (List Byte)
deriving DecidableEq, Repr

/-- The order of the controller event (C), the TICK (T) and the SAMPLE (S) of one cycle: the spec leaves it open (00_scope R10). -/
inductive CycleOrder where
  | cts | cst | tcs | tsc | sct | stc
deriving DecidableEq, Repr

/-- The controller event of a cycle: an RSP if `fa_rsp == 1`, a CTL otherwise (10_state R48). -/
def cycleControl (p : CyclePins) : Instr :=
  if p.faRsp then
    .rsp { status := ErrCode.ofCode p.faStatus, flag := p.faFlag, size := p.faSize, image := p.image }
  else .ctl

/-- The events of one cycle (10_state R48); `activeLow` is BTN_ACTIVE_LOW. A cycle with `rst == 1` is a RESET and nothing else. -/
def cycleEvents (activeLow : Bool) (o : CycleOrder) (p : CyclePins) : List Instr :=
  if p.rst then [.reset p.dip p.resOk]
  else
    let c := [cycleControl p]
    let t := if p.tick then [Instr.tick] else []
    let b := if p.sample then [Instr.sample (logicalLevel activeLow p.btnCheck) (logicalLevel activeLow p.btnWrite)] else []
    match o with
    | .cts => c ++ t ++ b
    | .cst => c ++ b ++ t
    | .tcs => t ++ c ++ b
    | .tsc => t ++ b ++ c
    | .sct => b ++ c ++ t
    | .stc => b ++ t ++ c

/-- The host drives one cycle: its events join the queue. -/
def State.driveCycle (s : State) (activeLow : Bool) (o : CycleOrder) (p : CyclePins) : State :=
  { s with stim := s.stim ++ (cycleEvents activeLow o p).map encode }

end Sys2Proof.Machine
end

