-- ==== Sys2Proof/Tests/Slice0.lean ====
section
/-! SUPPORT. The model's own tests: ill-formed terms refused, the spec's code words decoded, the spec's examples run one step, and for
every statement with hypotheses a concrete state and operands that meet them. Expected values are the spec's examples and tables. -/

namespace Sys2Proof.Tests

open Sys2Proof.Machine

/-! ### Small states -/

/-- The state an outcome carries, if any. -/
def nextOf (o : Host.Outcome State Fault Refusal) : Option State :=
  match o with
  | .next t => some t
  | .fault _ => none
  | .refused _ => none

/-- One step's controller registers. -/
def ctlOf (i : Instr) (s : State) : Option CtlRegs := (nextOf (exec i s)).map State.ctl

/-- One slot's phase counter after one step. -/
def lampOf (i : Instr) (s : State) (k : Slot) : Option LampPhase := (nextOf (exec i s)).map fun t => lampAt t.sched k

/-- The startup animation is over (70 R313). -/
def schedIdle : SchedRegs := { SchedRegs.reset with bootCtr := 16, bootDone := true }

/-- Ready, nothing detected, T_SETTLE = 2 (as 95_test_vectors takes it). -/
def idleState : State :=
  { State.reset with ctl := { CtlRegs.reset with phase := .idle }, sched := schedIdle, tSettle := 2 }

/-- The ready state with other controller registers. -/
def withRegs (c : CtlRegs) : State := { idleState with ctl := c }

/-- A phase of a workflow at a slot, nothing detected. -/
def at' (p : Phase) (w : Workflow) (cur : BitVec 5) : State := withRegs { CtlRegs.reset with phase := p, wf := w, cur := cur }

/-- A record. -/
def rec4 (p : Presence) (m : SizeMatch) (k : OpResult) (l : LedMode) : SlotState :=
  { presence := p, sizeMatch := m, lastOpResult := k, ledMode := l }

/-- Slot `i` holds record `r`. -/
def holding (s : State) (i : Slot) (r : SlotState) : State := s.withCtl (setRecord s.ctl i r)

/-- Slot 0's phase counter is (`cnt`, `lvl`). -/
def lampState (cnt : BitVec 8) (lvl : Bool) : State :=
  idleState.withSched { schedIdle with lamp := schedIdle.lamp.set 0 { cnt := cnt, lvl := lvl } }

/-- CHECK's debouncer is `d`. -/
def buttonState (d : DbState) (cnt : BitVec 4) : State :=
  idleState.withSamp { SampRegs.reset with check := { dbState := d, dbCnt := cnt } }

def rspOk (flag : Bool) (size : ChipSize) : Rsp := { status := .ok, flag := flag, size := size, image := none }
def rspErr (e : ErrCode) : Rsp := { status := e, flag := false, size := 0, image := none }

/-- Waiting for the DETECT answer of slot 3 in a CHECK whose reference is 2 MB. -/
def detectingSlot3 : State :=
  withRegs { setRecord CtlRegs.reset 0 (rec4 .present .matching .none .slowBlink) with
    phase := .detect, wf := .check, cur := 3, refValid := true, refSize := 2097152, muxAddr := 3 }

/-- Waiting for slot 4's answer to a WRITE or VERIFY command. -/
def cloningSlot4 (p : Phase) : State :=
  withRegs { setRecord (setRecord CtlRegs.reset 0 (rec4 .present .matching .success .on)) 4
      (rec4 .present .matching .none .dataActivity) with
    phase := p, wf := .write, cur := 4, act := true, refValid := true, refImage := some (imageOfBytes [1, 2]), muxAddr := 4 }

/-- Waiting for slot 0's READ answer. -/
def readingSlot0 : State :=
  withRegs { setRecord CtlRegs.reset 0 (rec4 .present .matching .none .dataActivity) with
    phase := .read, wf := .write, act := true, refValid := true }

/-- Halted. -/
def fatalState : State := withRegs { CtlRegs.reset with phase := .fatal, fatalCode := .resourceBusy }

/-! ### Well-formedness -/

theorem test_wf_reset_dip_too_wide : (Instr.reset 16 true).wellFormedFor 4 = false := by decide
theorem test_wf_reset_dip_fits : (Instr.reset 15 true).wellFormedFor 4 = true := by decide
theorem test_wf_select_16_refused : (Instr.select 16).wellFormed = false := by decide
theorem test_wf_select_15_accepted : (Instr.select 15).wellFormed = true := by decide

/-! ### Code words written out from spec/30_encoding.md -/

/-- R98: `1111 000r d…d`, `0000…`, `0001…`, `0010 00wc 0…0`, `0011 fsss z…z`. -/
theorem test_decode_events :
    decode { port := .stimulus, code := 0xF1000000A5 } = .ok (.reset 0xA5 true) ∧
    decode { port := .stimulus, code := 0xF000000000 } = .ok (.reset 0 false) ∧
    decode { port := .stimulus, code := 0x0000000000 } = .ok .ctl ∧
    decode { port := .stimulus, code := 0x1000000000 } = .ok .tick ∧
    decode { port := .stimulus, code := 0x2100000000 } = .ok (.sample true false) ∧
    decode { port := .stimulus, code := 0x2200000000 } = .ok (.sample false true) ∧
    decode { port := .stimulus, code := 0x3B00000007 } =
      .ok (.rsp { status := .readFailure, flag := true, size := 7, image := none }) ∧
    decode { port := .stimulus, code := 0x3400000000 } = .ok (.rsp (rspErr .writeFailure)) :=
  ⟨rfl, rfl, rfl, rfl, rfl, rfl, rfl, rfl⟩

/-- R86. -/
theorem test_decode_phases :
    decode { port := .phase, code := 0b0000 } = .ok (.phBoot .ctl) ∧ decode { port := .phase, code := 0b0001 } = .ok (.phIdle .ctl) ∧
    decode { port := .phase, code := 0b0010 } = .ok (.phStart .ctl) ∧ decode { port := .phase, code := 0b0011 } = .ok (.phSelect .ctl) ∧
    decode { port := .phase, code := 0b0100 } = .ok (.phSettle .ctl) ∧ decode { port := .phase, code := 0b0101 } = .ok (.phDetect .ctl) ∧
    decode { port := .phase, code := 0b0110 } = .ok (.phRead .ctl) ∧ decode { port := .phase, code := 0b0111 } = .ok (.phArchive .ctl) ∧
    decode { port := .phase, code := 0b1000 } = .ok (.phWrite .ctl) ∧ decode { port := .phase, code := 0b1001 } = .ok (.phVerify .ctl) ∧
    decode { port := .phase, code := 0b1010 } = .ok (.phNext .ctl) ∧ decode { port := .phase, code := 0b1011 } = .ok (.phFatal .ctl) :=
  ⟨rfl, rfl, rfl, rfl, rfl, rfl, rfl, rfl, rfl, rfl, rfl, rfl⟩

/-- R86 with an `RSP` word of R98 as the controller event beside the code. -/
theorem test_decode_phase_on_answer :
    decode { port := .phase, code := 0b0101, arg := 0x3800200000 } = .ok (.phDetect (.rsp (rspOk true 2097152))) := rfl

/-- R84. -/
theorem test_decode_lamp_modes :
    decode { port := .ledMode, code := 0b000, arg := 15 } = .ok (.blOff 15) ∧
    decode { port := .ledMode, code := 0b001, arg := 3 } = .ok (.blOn 3) ∧
    decode { port := .ledMode, code := 0b010 } = .ok (.blSlow 0) ∧ decode { port := .ledMode, code := 0b011 } = .ok (.blFast 0) ∧
    decode { port := .ledMode, code := 0b100 } = .ok (.blData 0) :=
  ⟨rfl, rfl, rfl, rfl, rfl⟩

/-- R91, with the raw level as bit 0. -/
theorem test_decode_debounce_states :
    decode { port := .debounce, code := 0b000 } = .ok (.dbIdle .check false) ∧
    decode { port := .debounce, code := 0b001, arg := 1 } = .ok (.dbIdle .write true) ∧
    decode { port := .debounce, code := 0b010 } = .ok (.dbPend .check false) ∧
    decode { port := .debounce, code := 0b011 } = .ok (.dbPend .check true) ∧
    decode { port := .debounce, code := 0b100 } = .ok (.dbConf .check false) ∧
    decode { port := .debounce, code := 0b101 } = .ok (.dbConf .check true) ∧
    decode { port := .debounce, code := 0b110 } = .ok (.dbRel .check false) ∧
    decode { port := .debounce, code := 0b111 } = .ok (.dbRel .check true) :=
  ⟨rfl, rfl, rfl, rfl, rfl, rfl, rfl, rfl⟩

/-- R89. -/
theorem test_decode_commands :
    decode { port := .faCmd, code := 0b001 } = .ok .detect ∧ decode { port := .faCmd, code := 0b010 } = .ok .read ∧
    decode { port := .faCmd, code := 0b011 } = .ok .write ∧ decode { port := .faCmd, code := 0b100 } = .ok .verify :=
  ⟨rfl, rfl, rfl, rfl⟩

/-- R93, R94. -/
theorem test_decode_indices_and_strobes :
    decode { port := .muxAddr, code := 0b1010 } = .ok (.select 10) ∧ decode { port := .stIdx, code := 0b0011 } = .ok (.stat 3) ∧
    decode { port := .archReq, code := 1 } = .ok .store ∧ decode { port := .srLatch, code := 1, arg := 0x000A } = .ok (.render 0x000A) :=
  ⟨rfl, rfl, rfl, rfl⟩

/-- R95. -/
theorem test_decode_reserved_refused :
    decode { port := .stimulus, code := 0x4000000000 } = .error .reservedKind ∧
    decode { port := .stimulus, code := 0xE000000000 } = .error .reservedKind ∧
    decode { port := .stimulus, code := 0x1000000001 } = .error .nonZeroField ∧
    decode { port := .phase, code := 0b1100 } = .error .reservedPhase ∧
    decode { port := .ledMode, code := 0b101 } = .error .reservedLedMode ∧
    decode { port := .faCmd, code := 0b000 } = .error .reservedCommand :=
  ⟨rfl, rfl, rfl, rfl, rfl, rfl⟩

/-- R85: codes 101 to 111 of `lastOpResult` and 11 of `sizeMatch` stand for no record. -/
theorem test_unpack_reserved_refused : unpackRecord 0x028 = none ∧ unpackRecord 0x0C0 = none := by decide

/-- The table words of the five events and of a phase (spec/opcode_table.json). -/
theorem test_table_words :
    decodeTableWord 40 0xF100000000 = some (.reset 0 true) ∧ decodeTableWord 40 0 = some .ctl ∧
    decodeTableWord 40 0x1000000000 = some .tick ∧ decodeTableWord 8 0b0101 = some (.phDetect .ctl) :=
  ⟨rfl, rfl, rfl, rfl⟩

theorem test_step_runs_fetched_word :
    step (idleState.withFetchWord 40 0x1000000000) = exec .tick idleState := rfl

/-! ### The spec's examples, one step each -/

/-- 70 R310, R311. -/
theorem test_reset_without_lines_halts :
    (ctlOf (.reset 5 false) detectingSlot3).map (fun c => (c.phase, c.fatalCode, c.cur)) = some (.fatal, .resourceBusy, 0) := by decide
theorem test_reset_samples_dip : (nextOf (exec (.reset 5 true) fatalState)).map State.speedCfg = some 5 := by decide

/-- 42 R140: the ticks 1, 16 and 17 show 0x0001, 0x8000 and 0x0000. -/
theorem test_tick_animation_last_lamp :
    (nextOf (exec .tick (idleState.withSched { SchedRegs.reset with bootCtr := 15 }))).map (fun t => t.sched.ledVisible) =
      some 0x8000 := by decide
theorem test_tick_ends_animation :
    (nextOf (exec .tick (idleState.withSched { SchedRegs.reset with bootCtr := 16 }))).map
      (fun t => (t.sched.ledVisible, t.sched.bootDone)) = some (0, true) := by decide

/-- 43 R153, R159: both presses confirmed in one sample, CHECK is served. -/
theorem test_sample_both_serves_check :
    (ctlOf (.sample true true) (idleState.withSamp
      { check := { dbState := .pressedPending, dbCnt := 2 }, write := { dbState := .pressedPending, dbCnt := 2 } })).map
      (fun c => (c.phase, c.wf)) = some (.start, .check) := by decide

/-- 43 R160: a press confirmed while busy starts nothing. -/
theorem test_sample_busy_drops :
    (ctlOf (.sample false true) ((at' .next .check 15).withSamp
      { SampRegs.reset with write := { dbState := .pressedPending, dbCnt := 2 } })).map (fun c => c.phase) = some .next := by decide

/-- 44 R175. -/
theorem test_ctl_leaves_boot : (ctlOf .ctl (at' .boot .none 0)).map (fun c => c.phase) = some .idle := by decide
theorem test_phBoot_waits_for_animation :
    (ctlOf (.phBoot .ctl) ((at' .boot .none 0).withSched SchedRegs.reset)).map (fun c => c.phase) = some .boot := by decide
theorem test_phIdle_does_nothing : (ctlOf (.phIdle .ctl) idleState).map (fun c => c.phase) = some .idle := by decide

/-- 44 R176, R177: a WRITE's START clears slot 0's record and keeps slot 5's. -/
theorem test_phStart_write_keeps_targets :
    (ctlOf (.phStart .ctl) (holding (at' .start .write 0) 5 (rec4 .present .matching .success .fastBlink))).map
      (fun c => (c.phase, recordAt c 5)) = some (.select, rec4 .present .matching .success .on) := by decide
theorem test_phStart_check_clears_targets :
    (ctlOf (.phStart .ctl) (holding (at' .start .check 0) 5 (rec4 .present .matching .success .on))).map
      (fun c => recordAt c 5) = some (rec4 .absent .unknown .none .off) := by decide

/-- 44 R178. -/
theorem test_phSelect_write_target :
    (ctlOf (.phSelect .ctl) (holding (at' .select .write 4) 4 (rec4 .present .matching .none .slowBlink))).map
      (fun c => (c.muxAddr, c.settleCtr, c.act, (recordAt c 4).ledMode)) = some (4, 2, true, .dataActivity) := by decide
theorem test_phSelect_beyond_15_halts :
    (ctlOf (.phSelect .ctl) (at' .select .check 16)).map (fun c => (c.phase, c.fatalCode, c.settleCtr)) =
      some (.fatal, .addressOutOfRange, 0) := by decide

/-- 44 R179. -/
theorem test_phSettle_issues_detect :
    (nextOf (exec (.phSettle .ctl) (at' .settle .check 2))).map (fun t => (t.ctl.phase, t.out.faReq, t.out.faCmd)) =
      some (.detect, true, .detect) := by decide
theorem test_phSettle_issues_write :
    (nextOf (exec (.phSettle .ctl) (at' .settle .write 2))).map (fun t => (t.ctl.phase, t.out.faCmd)) = some (.write, .write) := by decide

/-- 45 R203's example. -/
theorem test_rsp_detect_reference :
    (ctlOf (.rsp (rspOk true 2097152)) (at' .detect .check 0)).map (fun c => (recordAt c 0, c.refSize, c.phase)) =
      some (rec4 .present .matching .none .slowBlink, 2097152, .next) := by decide

/-- 44 R172 lists no case for `cur == 0` with no workflow: nothing. -/
theorem test_rsp_without_workflow : ctlOf (.rsp (rspOk true 1)) (at' .detect .none 0) = some (at' .detect .none 0).ctl := by decide

/-- 45 R204's example. -/
theorem test_phDetect_target_wrong_size :
    (ctlOf (.phDetect (.rsp (rspOk true 4194304))) detectingSlot3).map (fun c => (recordAt c 3, c.phase)) =
      some (rec4 .present .mismatch .none .fastBlink, .next) := by decide
theorem test_phDetect_reference_missing_aborts :
    (ctlOf (.phDetect (.rsp (rspErr .noChipDetected))) (at' .detect .write 0)).map (fun c => (c.phase, c.gerr, c.runErr)) =
      some (.idle, true, .noChipDetected) := by decide

/-- 46 R224's example. -/
theorem test_phRead_failure_aborts :
    (ctlOf (.phRead (.rsp (rspErr .readFailure))) readingSlot0).map (fun c => (recordAt c 0, c.gerr, c.runErr, c.phase)) =
      some (rec4 .present .matching .readFailed .fastBlink, true, .readFailure, .idle) := by decide
theorem test_phRead_takes_image :
    (ctlOf (.phRead (.rsp { status := .ok, flag := false, size := 2, image := some [7, 9] })) readingSlot0).map
      (fun c => (c.refImage.map RefImage.bytes, (recordAt c 0).ledMode, c.phase)) = some (some [7, 9], .on, .archive) := by decide

/-- 46 R225. -/
theorem test_phArchive_stores :
    (nextOf (exec (.phArchive .ctl) (at' .archive .write 0))).map (fun t => (t.ctl.phase, t.out.archReq)) = some (.next, true) := by decide

/-- 46 R228's example. -/
theorem test_phWrite_failure :
    (ctlOf (.phWrite (.rsp (rspErr .writeFailure))) (cloningSlot4 .write)).map (fun c => (recordAt c 4, c.phase, c.act)) =
      some (rec4 .present .matching .writeFailed .fastBlink, .next, false) := by decide
theorem test_phWrite_success_verifies :
    (nextOf (exec (.phWrite (.rsp (rspOk false 0))) (cloningSlot4 .write))).map (fun t => (t.ctl.phase, t.out.faCmd)) =
      some (.verify, .verify) := by decide

/-- 46 R230's example. -/
theorem test_phVerify_mismatch :
    (ctlOf (.phVerify (.rsp (rspOk false 0))) (cloningSlot4 .verify)).map (fun c => recordAt c 4) =
      some (rec4 .present .matching .verifyFailed .fastBlink) := by decide
theorem test_phVerify_success :
    (ctlOf (.phVerify (.rsp (rspOk true 0))) (cloningSlot4 .verify)).map (fun c => recordAt c 4) =
      some (rec4 .present .matching .success .on) := by decide

/-- 44 R181. -/
theorem test_phNext_ends_after_15 :
    (ctlOf (.phNext .ctl) (at' .next .check 15)).map (fun c => (c.phase, c.cur, c.wf)) = some (.idle, 15, .none) := by decide
theorem test_phNext_skips_in_write :
    (ctlOf (.phNext .ctl) (at' .next .write 0)).map (fun c => (c.phase, c.cur)) = some (.next, 1) := by decide

/-- 60 R280. -/
theorem test_phFatal_nothing : ctlOf (.phFatal .ctl) fatalState = some fatalState.ctl := by decide

/-- 42 R133's to R137's examples. -/
theorem test_blOff : lampOf (.blOff 0) (lampState 7 true) 0 = some { cnt := 0, lvl := false } := by decide
theorem test_blOn : lampOf (.blOn 0) (lampState 3 false) 0 = some { cnt := 0, lvl := true } := by decide
theorem test_blSlow_toggles : lampOf (.blSlow 0) (lampState 24 false) 0 = some { cnt := 0, lvl := true } := by decide
theorem test_blSlow_counts : lampOf (.blSlow 0) (lampState 23 false) 0 = some { cnt := 24, lvl := false } := by decide
theorem test_blFast_toggles : lampOf (.blFast 0) (lampState 4 true) 0 = some { cnt := 0, lvl := false } := by decide
theorem test_blFast_counts : lampOf (.blFast 0) (lampState 0 true) 0 = some { cnt := 1, lvl := true } := by decide
theorem test_blData : lampOf (.blData 0) (lampState 0 false) 0 = some { cnt := 0, lvl := true } := by decide

/-- 43 R152's to R155's examples. -/
theorem test_dbIdle :
    (nextOf (exec (.dbIdle .check true) (buttonState .idle 0))).map (fun t => (t.samp.check, t.out.evtCheck)) =
      some ({ dbState := .pressedPending, dbCnt := 1 }, false) := by decide
theorem test_dbPend_confirms :
    (nextOf (exec (.dbPend .check true) (buttonState .pressedPending 2))).map (fun t => (t.samp.check, t.out.evtCheck)) =
      some ({ dbState := .pressedConfirmed, dbCnt := 0 }, true) := by decide
theorem test_dbPend_counts :
    (nextOf (exec (.dbPend .check true) (buttonState .pressedPending 1))).map (fun t => (t.samp.check, t.out.evtCheck)) =
      some ({ dbState := .pressedPending, dbCnt := 2 }, false) := by decide
theorem test_dbConf :
    (nextOf (exec (.dbConf .check false) (buttonState .pressedConfirmed 0))).map (fun t => t.samp.check) =
      some { dbState := .released, dbCnt := 1 } := by decide
theorem test_dbRel_returns :
    (nextOf (exec (.dbRel .check false) (buttonState .released 2))).map (fun t => t.samp.check) =
      some { dbState := .idle, dbCnt := 0 } := by decide
theorem test_dbRel_bounces :
    (nextOf (exec (.dbRel .check true) (buttonState .released 2))).map (fun t => (t.samp.check, t.out.evtCheck)) =
      some ({ dbState := .pressedConfirmed, dbCnt := 0 }, false) := by decide

/-- 45 R201, 46 R223, R227, 47 R259. -/
theorem test_detect : (nextOf (exec .detect idleState)).map (fun t => (t.out.faCmd, t.ctl.phase)) = some (.detect, .detect) := by decide
theorem test_read : (nextOf (exec .read idleState)).map (fun t => (t.out.faCmd, t.ctl.phase)) = some (.read, .read) := by decide
theorem test_write_carries_image :
    (nextOf (exec .write (cloningSlot4 .settle))).map (fun t => (t.out.faCmd, t.out.faImage.map RefImage.bytes)) =
      some (.write, some [1, 2]) := by decide
theorem test_verify_carries_image :
    (nextOf (exec .verify (cloningSlot4 .write))).map (fun t => (t.out.faCmd, t.out.faImage.map RefImage.bytes)) =
      some (.verify, some [1, 2]) := by decide
theorem test_store :
    (nextOf (exec .store (cloningSlot4 .write))).map (fun t => (t.out.archReq, t.out.archImage.map RefImage.bytes, t.ctl.phase)) =
      some (true, some [1, 2], .write) := by decide

/-- 40 R110's example, R112. -/
theorem test_select_ten : (ctlOf (.select 10) idleState).map (fun c => c.muxAddr) = some 0b1010 := by decide
theorem test_select_sixteen_halts :
    (ctlOf (.select 16) idleState).map (fun c => (c.phase, c.fatalCode, c.muxAddr)) = some (.fatal, .addressOutOfRange, 0) := by decide

/-- 47 R264's example: slot 3 reads 0x183 after the scenario CHECK. -/
theorem test_stat_three :
    (nextOf (exec (.stat 3) (holding idleState 3 (rec4 .present .mismatch .none .fastBlink)))).map stData = some 0x183 := by decide

/-- 41 R120's example. -/
theorem test_render_lamps_1_and_3 :
    (nextOf (exec (.render 0x000A) idleState)).map (fun t => (t.sched.ledVisible, t.out.latch)) = some (0x000A, true) := by decide

/-- 60 R283: a cycle with `rst == 1` is a RESET and nothing else. -/
theorem test_cycle_reset_alone :
    cycleEvents true .sct { rst := true, dip := 3, resOk := true, tick := true, sample := true, btnCheck := false, btnWrite := true,
                            faRsp := true, faStatus := 0, faFlag := true, faSize := 1, image := none } = [.reset 3 true] := by decide

/-- 30_encoding R99: RUN from SELECT ends in the wait phase, and in BOOT before the animation is over it takes no CTL. -/
theorem test_run :
    (scriptRun (at' .select .check 0)).map (fun t => t.ctl.phase) = some .detect ∧
    (scriptRun ((at' .boot .none 0).withSched SchedRegs.reset)).map (fun t => t.ctl.phase) = some .boot := by decide

/-! ### States that meet the invariant -/

theorem schedIdle_inv : SchedInv schedIdle := ⟨by decide, by decide, by decide, by decide, by decide⟩

theorem idleState_inv : EngineInv idleState :=
  ⟨⟨by decide, by decide, by decide, by decide, by decide, by decide, (by intro img h; cases h), by decide, by decide, by decide,
    by decide, by decide, by decide, by decide, by decide, by decide, by decide, by decide, by decide, by decide, by decide⟩,
   schedIdle_inv, by decide, by decide, by decide, by decide⟩

theorem detectingSlot3_inv : EngineInv detectingSlot3 :=
  ⟨⟨by decide, by decide, by decide, by decide, by decide, by decide, (by intro img h; cases h), by decide, by decide, by decide,
    by decide, by decide, by decide, by decide, by decide, by decide, by decide, by decide, by decide, by decide, by decide⟩,
   schedIdle_inv, by decide, by decide, by decide, by decide⟩

theorem cloningSlot4_inv : EngineInv (cloningSlot4 .write) :=
  ⟨⟨by decide, by decide, by decide, by decide, by decide, by decide, (by intro img h; cases h; exact ⟨rfl, rfl⟩), by decide, by decide,
    by decide, by decide, by decide, by decide, by decide, by decide, by decide, by decide, by decide, by decide, by decide, by decide⟩,
   schedIdle_inv, by decide, by decide, by decide, by decide⟩

/-! ### Witnesses: the hypotheses of every statement can be met -/

theorem witness_EncodeThenDecode : (Instr.select 15).wellFormed = true ∧ (Instr.reset 0xFFFFFFFF false).wellFormed = true := by decide

theorem witness_DecodeThenEncode : decode { port := .muxAddr, code := 15 } = .ok (.select 15) := rfl

theorem witness_ReservedCodesAreRefused :
    (((0x4000000000 : StimWord).extractLsb' 36 4).toNat = 4 ∧ ((0xE000000000 : StimWord).extractLsb' 36 4).toNat = 14) ∧
    (((0x0800000000 : StimWord).extractLsb' 36 4).toNat = 0 ∧ (0x0800000000 : StimWord).extractLsb' 0 36 ≠ 0) ∧
    (((0x1000000001 : StimWord).extractLsb' 36 4).toNat = 1 ∧ (0x1000000001 : StimWord).extractLsb' 0 36 ≠ 0) ∧
    (((0x2400000000 : StimWord).extractLsb' 36 4).toNat = 2 ∧ (0x2400000000 : StimWord).extractLsb' 34 2 ≠ 0) ∧
    (((0xF200000000 : StimWord).extractLsb' 36 4).toNat = 15 ∧ (0xF200000000 : StimWord).extractLsb' 33 3 ≠ 0) ∧
    ((12 : StimWord).toNat = 12 ∧ (15 : StimWord).toNat = 15) ∧ ((5 : StimWord).toNat = 5 ∧ (7 : StimWord).toNat = 7) ∧
    (0 : StimWord).toNat = 0 := by decide

theorem witness_PackedRecordFormat : unpackRecord 0x142 = some (rec4 .present .matching .none .slowBlink) := by decide

theorem witness_StepRunsDecodedStimulus :
    (idleState.withNext { port := .stimulus, code := 0x1000000000 }).stim = { port := .stimulus, code := 0x1000000000 } :: [] ∧
    decode { port := .stimulus, code := 0x1000000000 } = .ok .tick ∧
    decode { port := .stimulus, code := 0x5000000000 } = .error .reservedKind ∧ idleState.stim = [] :=
  ⟨rfl, rfl, rfl, rfl⟩

theorem witness_EveryOperationCompletes :
    (EngineInv detectingSlot3 ∧ (Instr.rsp (rspOk true 1)).isEvent = true ∧ ∃ t, exec (.rsp (rspOk true 1)) detectingSlot3 = .next t) ∧
    ((at' .detect .none 0).ctl.cur = 0 ∧ (at' .detect .none 0).ctl.wf = .none ∧ (at' .detect .none 0).ctl.phase = .detect) ∧
    ((at' .next .check 16).ctl.phase ≠ .fatal ∧ 16 ≤ (at' .next .check 16).ctl.cur.toNat ∧ (rspErr .readFailure).status ≠ .ok ∧
      (at' .next .check 30).ctl.cur.toNat < 31) :=
  ⟨⟨detectingSlot3_inv, rfl, _, rfl⟩, by decide, by decide⟩

theorem witness_StepKeepsInvariant : MachineInv idleState ∧ ∃ t, step idleState = .next t :=
  ⟨⟨idleState_inv, by decide⟩, _, rfl⟩

theorem witness_OperationsKeepRanges : Ranges idleState ∧ ∃ t, exec (.dbIdle .write true) idleState = .next t :=
  ⟨⟨by decide, by decide, by decide, by decide, by decide⟩, _, rfl⟩

/-- A state that a run reaches, for the statements about reachable states. -/
theorem witness_Reachable :
    Reachable (resetRegs 0 idleState) ∧ ∃ u, exec .ctl (resetRegs 0 idleState) = .next u :=
  ⟨⟨idleState, 0, true, [], by decide, by simp, rfl⟩, _, rfl⟩

theorem witness_LampsShowLampBits :
    idleState.sched.bootDone = true ∧ idleState.ctl.phase ≠ .fatal ∧ (∃ t, exec .tick idleState = .next t) ∧
    Instr.ctl.isEvent = true ∧ Instr.ctl ≠ .tick ∧ notReset .ctl = true ∧ ∃ t, exec .ctl idleState = .next t :=
  ⟨rfl, by decide, ⟨_, rfl⟩, rfl, by decide, rfl, _, rfl⟩

/-- One pair of states for the clauses on reads: they differ in what the agent may not read. -/
theorem witness_SingleWriterDiscipline :
    (∃ t, exec .tick idleState = .next t) ∧ (∃ t, exec .tick (at' .detect .check 3) = .next t) ∧
    idleState.sched = (at' .detect .check 3).sched ∧
    (∀ i : Slot, (recordAt idleState.ctl i).ledMode = (recordAt (at' .detect .check 3).ctl i).ledMode) ∧
    (idleState.ctl.phase = .fatal ↔ (at' .detect .check 3).ctl.phase = .fatal) ∧
    (∃ t, exec (.sample true true) idleState = .next t) ∧ (∃ t, exec (.sample true true) (lampState 3 true) = .next t) ∧
    idleState.samp = (lampState 3 true).samp ∧ idleState.ctl.phase = (lampState 3 true).ctl.phase ∧
    (∃ t, exec .ctl (lampState 3 true) = .next t) ∧ idleState.ctl = (lampState 3 true).ctl ∧
    idleState.sched.bootDone = (lampState 3 true).sched.bootDone ∧ idleState.tSettle = (lampState 3 true).tSettle ∧
    idleState.freeCtr = (lampState 3 true).freeCtr ∧ (∃ t, exec (.rsp (rspOk true 1)) (lampState 3 true) = .next t) :=
  ⟨⟨_, rfl⟩, ⟨_, rfl⟩, rfl, by decide, by decide, ⟨_, rfl⟩, ⟨_, rfl⟩, rfl, rfl, ⟨_, rfl⟩, rfl, rfl, rfl, rfl, _, rfl⟩

theorem witness_OrderOfSampleAndController :
    (debounce { dbState := .pressedPending, dbCnt := 2 } true).e = true ∧
    ((at' .next .check 15).ctl.phase = .next ∧ (at' .next .check 15).ctl.cur = 15) ∧
    ((at' .boot .none 0).ctl.phase = .boot ∧ (at' .boot .none 0).sched.bootDone = true) := by decide

theorem witness_FatalAbsorbs : fatalState.ctl.phase = .fatal ∧ notReset (.rsp (rspOk true 1)) = true ∧ ∀ k, Instr.rsp (rspOk true 1) ≠ .stat k :=
  ⟨rfl, rfl, by intro k h; cases h⟩

theorem witness_FatalEnteredAndLeft :
    (ctlOf (.reset 0 false) idleState).map (fun c => c.phase) = some .fatal ∧
    (ctlOf (.select 16) idleState).map (fun c => c.phase) = some .fatal ∧
    (ctlOf .ctl (at' .select .check 16)).map (fun c => c.phase) = some .fatal ∧ idleState.ctl.phase ≠ .fatal ∧
    (ctlOf (.reset 0 true) fatalState).map (fun c => c.phase) = some .boot := by decide

/-- For TickResult, TickIsItsOperations, RenderResult, CommandsAndStore, DebounceOperations, SampleResult and the BL operations. -/
theorem witness_running : idleState.ctl.phase ≠ .fatal ∧ idleState.sched.bootDone = true ∧ ∃ t, exec .tick idleState = .next t :=
  ⟨by decide, rfl, _, rfl⟩

theorem witness_BootTickResult :
    (at' .boot .none 0).ctl.phase ≠ .fatal ∧ SchedRegs.reset.bootDone = false ∧ SchedRegs.reset.bootCtr.toNat < 16 ∧
    ((at' .boot .none 0).withSched { SchedRegs.reset with bootCtr := 16 }).sched.bootCtr.toNat = 16 := by decide

theorem witness_StartupSequence :
    (∀ i ∈ [Instr.tick, .ctl, .sample true false], i.isEvent = true ∧ notReset i = true) ∧
    [Instr.tick, .ctl, .sample true false].count .tick ≤ 16 ∧
    ∃ t, runInstrs (.reset 0 true :: [.tick, .ctl, .sample true false]) idleState = .next t :=
  ⟨by decide, by decide, _, rfl⟩

theorem witness_BlinkPeriods :
    (lampAt idleState.sched 0).cnt = 0 ∧ (∃ t, runInstrs (scriptTicks 2) idleState = .next t) ∧
    (recordAt (holding idleState 0 (rec4 .present .matching .none .slowBlink)).ctl 0).ledMode = .slowBlink ∧
    (recordAt (holding idleState 0 (rec4 .present .mismatch .none .fastBlink)).ctl 0).ledMode = .fastBlink ∧
    (recordAt readingSlot0.ctl 0).ledMode = .dataActivity :=
  ⟨rfl, ⟨_, rfl⟩, by decide, by decide, by decide⟩

theorem witness_OutputEventsOnlyThere :
    (nextOf (exec .ctl (at' .settle .check 0))).map (fun t => t.out.faReq) = some true ∧
    (nextOf (exec .ctl idleState)).map (fun t => t.out.faReq) = some false ∧ Instr.ctl.isEvent = true := by decide

theorem witness_SampleIsItsOperations :
    (∃ t, exec (debounceInstr .check true idleState.samp.check.dbState) idleState = .next t) ∧
    (∃ t, exec (debounceInstr .write false idleState.samp.write.dbState) idleState = .next t) ∧
    ∃ t, exec (.sample true false) idleState = .next t :=
  ⟨⟨_, rfl⟩, ⟨_, rfl⟩, _, rfl⟩

/-- (b): a press and its bounces, never back in `idle` before the end; (c): two pressed samples; (d): release, then a second press. -/
theorem witness_PressProperties :
    (∀ k < 3, (debounceRun { dbState := .idle, dbCnt := 0 } ([true, true, true, false].take (k + 1))).1.dbState ≠ .idle) ∧
    ¬ ([true, true, true] <:+: [true, true]) ∧
    1 ≤ (debounceRun { dbState := .pressedConfirmed, dbCnt := 0 } [false, false, false, true, true, true]).2 := by decide

theorem witness_BootAndIdlePhases :
    (at' .boot .none 0).ctl.phase = .boot ∧ (buttonState .pressedPending 2).ctl.phase = .idle ∧
    (Instr.sample true false).isEvent = true ∧ notReset (.sample true false) = true ∧
    (nextOf (exec .tick idleState)).map (fun t => t.ctl.phase) = some .idle ∧
    (nextOf (exec (.sample true false) (buttonState .pressedPending 2))).map (fun t => t.ctl.phase) = some .start := by decide

theorem witness_StartPhase :
    (at' .start .check 0).ctl.phase = .start ∧ (at' .start .check 0).ctl.wf = .check ∧ (at' .start .write 0).ctl.wf ≠ .check := by decide

theorem witness_SelectPhase :
    (at' .select .check 15).ctl.phase = .select ∧ (at' .select .write 15).ctl.cur.toNat ≤ 15 ∧
    ¬ ((at' .select .check 15).ctl.wf = .write ∧ 1 ≤ (at' .select .check 15).ctl.cur.toNat) ∧
    ((at' .select .write 1).ctl.wf = .write ∧ 1 ≤ (at' .select .write 1).ctl.cur.toNat ∧ (at' .select .write 1).ctl.gerr = false) ∧
    15 < (at' .select .check 16).ctl.cur.toNat := by decide

theorem witness_SettlePhase :
    (at' .settle .check 0).ctl.phase = .settle ∧ (at' .settle .check 0).ctl.settleCtr = 0 ∧ (at' .settle .check 0).ctl.cur = 0 ∧
    ¬ ((at' .settle .write 1).ctl.cur = 0 ∨ (at' .settle .write 1).ctl.wf = .check) ∧
    (withRegs { CtlRegs.reset with phase := .settle, wf := .check, settleCtr := 2 }).ctl.settleCtr ≠ 0 ∧
    ∃ t, runInstrs (List.replicate 2 .ctl)
      (withRegs { CtlRegs.reset with phase := .settle, wf := .check, settleCtr := 2 }).quiet = .next t :=
  ⟨rfl, rfl, rfl, by decide, by decide, _, rfl⟩

theorem witness_WaitingAndStrayAnswers :
    isWait detectingSlot3.ctl.phase = true ∧ isWait readingSlot0.ctl.phase = true ∧ isWait idleState.ctl.phase = false ∧
    isWait .archive = false := by decide

theorem witness_ReferenceDetectedInCheck :
    (at' .detect .check 0).ctl.phase = .detect ∧ (at' .detect .check 0).ctl.cur = 0 ∧ (at' .detect .check 0).ctl.wf = .check ∧
    ((rspOk true 0).status = .ok ∧ (rspOk true 0).flag = true) ∧ ¬ ((rspOk false 0).status = .ok ∧ (rspOk false 0).flag = true) ∧
    (at' .detect .check 0).ctl.gerr = false ∧ (at' .detect .check 0).ctl.act = false ∧
    (recordAt (at' .detect .check 0).ctl 0).lastOpResult = .none := by decide

theorem witness_ReferenceDetectedInWrite :
    (at' .detect .write 0).ctl.phase = .detect ∧ (at' .detect .write 0).ctl.cur = 0 ∧ (at' .detect .write 0).ctl.wf = .write ∧
    ((rspOk true 0).status = .ok ∧ (rspOk true 0).flag = true) ∧ ¬ ((rspErr .readFailure).status = .ok) ∧
    (at' .detect .write 0).ctl.gerr = false := by decide

theorem witness_TargetDetected :
    detectingSlot3.ctl.phase = .detect ∧ (3 : Slot).val = detectingSlot3.ctl.cur.toNat ∧ 1 ≤ (3 : Slot).val ∧
    (15 : Slot).val = (at' .detect .check 15).ctl.cur.toNat ∧ (1 : Slot).val = (at' .detect .check 1).ctl.cur.toNat ∧
    detectingSlot3.ctl.gerr = false ∧ detectingSlot3.ctl.act = false ∧ (recordAt detectingSlot3.ctl 3).lastOpResult = .none := by decide

theorem witness_ReadAnswer :
    readingSlot0.ctl.phase = .read ∧ (rspOk false 0).status = .ok ∧ (rspErr .writeFailure).status ≠ .ok ∧
    readingSlot0.ctl.gerr = false := by decide

theorem witness_ArchivePhase : (at' .archive .write 0).ctl.phase = .archive := by decide

theorem witness_WriteAnswer :
    (cloningSlot4 .write).ctl.phase = .write ∧ (4 : Slot).val = (cloningSlot4 .write).ctl.cur.toNat ∧ (rspOk false 0).status = .ok ∧
    (rspErr .verifyFailure).status ≠ .ok := by decide

theorem witness_VerifyAnswer :
    (cloningSlot4 .verify).ctl.phase = .verify ∧ (4 : Slot).val = (cloningSlot4 .verify).ctl.cur.toNat ∧
    (cloningSlot4 .verify).ctl.gerr = false := by decide

theorem witness_NextPhase :
    (at' .next .check 15).ctl.phase = .next ∧ (at' .next .check 15).ctl.cur = 15 ∧
    (1 : Slot).val = (at' .next .check 0).ctl.cur.toNat + 1 ∧ (15 : Slot).val = (at' .next .write 14).ctl.cur.toNat + 1 := by decide

theorem witness_FatalPhase : fatalState.ctl.phase = .fatal := by decide

theorem witness_FailureIsolation :
    (EngineInv detectingSlot3 ∧ isWait detectingSlot3.ctl.phase = true ∧ 1 ≤ detectingSlot3.ctl.cur.toNat) ∧
    (EngineInv (cloningSlot4 .write) ∧ isWait (cloningSlot4 .write).ctl.phase = true ∧ 1 ≤ (cloningSlot4 .write).ctl.cur.toNat) :=
  ⟨⟨detectingSlot3_inv, rfl, by decide⟩, cloningSlot4_inv, rfl, by decide⟩

theorem witness_SelectResult :
    idleState.ctl.phase ≠ .fatal ∧ (15 : BitVec 5).toNat ≤ 15 ∧ idleState.ctl.muxAddr.toNat = (0 : BitVec 5).toNat ∧
    15 < (16 : BitVec 5).toNat := by decide

theorem witness_StatResult : (15 : Slot).val = (15 : BitVec 4).toNat := by decide

/-- A state after RESET and some events, from the value of the run. -/
theorem reaches_of_run {s : State} {f : State → Bool} (resOk : Bool) (es : List Instr) (hs : 1 ≤ s.tSettle.toNat)
    (he : ∀ i ∈ es, i.isEvent = true) (h : (nextOf (runInstrs (.reset 0 resOk :: es) s)).map f = some true) :
    ∃ t, Reachable t ∧ f t = true := by
  obtain ⟨t, h1, h2⟩ := Option.map_eq_some_iff.mp h
  refine ⟨t, ⟨s, 0, resOk, es, hs, he, ?_⟩, h2⟩
  revert h1
  cases runInstrs (.reset 0 resOk :: es) s with
  | next u => intro h1; cases h1; rfl
  | fault f => intro h1; cases h1
  | refused r => intro h1; cases h1

/-- A reachable state that is ready, one in FATAL, and one under `gerr` (a CHECK with no chip in slot 0). -/
theorem witness_StatusOutputs_reachable :
    (∃ t, Reachable t ∧ ready t = true) ∧ (∃ t, Reachable t ∧ fatal t = true) ∧ ∃ t, Reachable t ∧ t.ctl.gerr = true :=
  ⟨reaches_of_run (s := idleState) true scriptBoot (by decide) (by decide) (by decide),
   reaches_of_run (s := idleState) false [] (by decide) (by decide) (by decide),
   reaches_of_run (s := idleState) (f := fun t => t.ctl.gerr) true
     (scriptBoot ++ scriptPressCheck ++ List.replicate 5 .ctl ++ [scriptEmpty]) (by decide) (by decide) (by decide)⟩

theorem witness_StatusOutputs :
    (∃ t, exec (.sample true false) detectingSlot3 = .next t) ∧ busy detectingSlot3 = true ∧
    (∃ t, exec (.sample true false) (buttonState .pressedPending 2) = .next t) ∧ busy (buttonState .pressedPending 2) = false ∧
    (∃ t, exec (.reset 3 false) detectingSlot3 = .next t) ∧ notReset .tick = true ∧ (∃ t, exec .tick detectingSlot3 = .next t) ∧
    Instr.tick.isEvent = true ∧ ∀ rC rW, Instr.tick ≠ .sample rC rW :=
  ⟨⟨_, rfl⟩, rfl, ⟨_, rfl⟩, rfl, ⟨_, rfl⟩, rfl, ⟨_, rfl⟩, rfl, fun _ _ h => by cases h⟩

/-! Whole workflows: T_SETTLE = 0 keeps the runs short. -/

/-- START of a workflow with slots 1 and 15 known to match. -/
def startState (w : Workflow) : State :=
  { holding (holding (at' .start w 0) 1 (rec4 .present .matching .none .slowBlink)) 15 (rec4 .present .matching .none .slowBlink) with
    tSettle := 0 }

/-- A run that ends, from the value of `runWorkflow`. -/
theorem ends_of_run {w : Workflow} {s : State} {b : Bool} (es : List Instr) (hp : s.ctl.phase = .start) (hw : s.ctl.wf = w)
    (he : ∀ i ∈ es, i.isEvent = true ∧ notReset i = true)
    (h : (runWorkflow es s).map (fun e => e.last.ctl.gerr) = some b) : ∃ e, workflowEnds w s e ∧ e.last.ctl.gerr = b := by
  obtain ⟨e, h1, h2⟩ := Option.map_eq_some_iff.mp h
  exact ⟨e, ⟨hp, hw, es, he, h1⟩, h2⟩

/-- Slot 0's turn with a tick, a press, a stray answer and a waiting CTL mixed in, then fifteen chips of slot 0's size. -/
def mixedCheck : List Instr :=
  [.tick, .rsp (rspOk true 9), .ctl, .sample true true, .ctl, .ctl, .ctl, .tick, .rsp (rspOk true 1), .ctl] ++
    (List.replicate 15 (checkTurn 0 (rspOk true 1))).flatten

theorem witness_CheckWorkflowResult :
    ((startState .check).ctl.phase = .start ∧ (startState .check).ctl.wf = .check ∧
      reportsChip (Vector.replicate 16 (rspOk true 2097152))[0]) ∧
    ∃ e, workflowEnds .check (startState .check) e ∧ e.last.ctl.gerr = false :=
  ⟨by decide, ends_of_run mixedCheck rfl rfl (by decide) (by decide)⟩

theorem witness_WriteWorkflowResult :
    ((startState .write).ctl.phase = .start ∧ (startState .write).ctl.wf = .write ∧ reportsChip (rspOk true 1) ∧
      (rspOk false 0).status = .ok) ∧
    (eligibleSlot (startState .write).ctl 1 = true ∧ eligibleSlot (startState .write).ctl 15 = true ∧
      eligibleSlot (startState .write).ctl 2 = false ∧ (startState .write).ctl.gerr = false ∧ (startState .write).ctl.act = false ∧
      lampsDerived (startState .write).ctl) ∧
    ∃ e, workflowEnds .write (startState .write) e ∧ e.last.ctl.gerr = false :=
  ⟨by decide, by decide,
   ends_of_run
     (.tick :: .sample true true ::
       writeWorkflow 0 (startState .write).ctl (rspOk true 1) (rspOk false 0) (Vector.replicate 16 (rspOk false 0))
         (Vector.replicate 16 (rspErr .verifyFailure)))
     rfl rfl (by decide) (by decide)⟩

theorem witness_WorkflowAborted :
    ((startState .check).ctl.phase = .start ∧ (startState .check).ctl.wf ≠ .none ∧ ¬ reportsChip (rspErr .noChipDetected)) ∧
    ((startState .write).ctl.phase = .start ∧ (startState .write).ctl.wf = .write ∧ reportsChip (rspOk true 1) ∧
      (rspErr .readFailure).status ≠ .ok) ∧
    (∃ e, workflowEnds .check (startState .check) e ∧ e.last.ctl.gerr = true) ∧
    ∃ e, workflowEnds .write (startState .write) e ∧ e.last.ctl.gerr = true :=
  ⟨by decide, by decide, ends_of_run [.ctl, .tick, .ctl, .ctl, .ctl, .rsp (rspErr .noChipDetected)] rfl rfl (by decide) (by decide),
   ends_of_run [.ctl, .tick, .ctl, .ctl, .rsp (rspOk true 1), .ctl, .rsp (rspErr .readFailure)] rfl rfl (by decide) (by decide)⟩

theorem witness_CheckIsIdempotent :
    ((at' .start .check 0).ctl.phase = .start ∧ (at' .start .check 7).ctl.wf = .check ∧
      ∃ t, runInstrs (checkWorkflow (at' .start .check 0).tSettle.toNat (Vector.replicate 16 (rspErr .noChipDetected)))
        (at' .start .check 0) = .next t) ∧
    ∃ e, workflowEnds .check (startState .check) e ∧ e.last.ctl.gerr = false :=
  ⟨⟨rfl, rfl, _, rfl⟩, ends_of_run mixedCheck rfl rfl (by decide) (by decide)⟩

theorem witness_AddressSteadyBeforeAndDuringRequest :
    (Instr.tick.isEvent = true ∧ notReset .tick = true ∧ outstanding detectingSlot3 = true ∧ ∃ t, exec .tick detectingSlot3 = .next t) ∧
    (at' .select .check 15).ctl.phase = .select ∧ (at' .select .check 15).ctl.cur.toNat ≤ 15 ∧
    3 ≤ (at' .select .check 15).tSettle.toNat + 1 ∧ ∃ t, runInstrs (List.replicate 3 .ctl) (at' .select .check 15) = .next t :=
  ⟨⟨rfl, rfl, rfl, _, rfl⟩, rfl, by decide, by decide, _, rfl⟩

/-- RESET, START, the NEXT that ends the workflow and an aborting READ answer drop the image; a good READ answer brings one. -/
theorem witness_ImageLifetime :
    Instr.ctl.isEvent = true ∧ (∃ t, exec .ctl (at' .start .write 0) = .next t) ∧
    (ctlOf (.reset 0 true) (cloningSlot4 .write)).map (fun c => c.refImage) = some none ∧
    (ctlOf .ctl ((cloningSlot4 .next).withCtl { (cloningSlot4 .next).ctl with cur := 15 })).map (fun c => (c.refImage, c.phase)) =
      some (none, .idle) ∧
    (ctlOf (.rsp (rspErr .readFailure)) readingSlot0).map (fun c => (c.refImage, c.gerr, c.phase)) = some (none, true, .idle) ∧
    ∃ t, exec (.rsp (rspOk false 0)) readingSlot0 = .next t :=
  ⟨rfl, ⟨_, rfl⟩, by decide, by decide, by decide, _, rfl⟩

end Sys2Proof.Tests
end

section
/-! What one step fetches, what it leaves on the queue, and what it answers for a stimulus that decodes or does not (00_scope R9,
10_state R48, 30_encoding R95; log entries 6, 7). -/

namespace Sys2Proof.Machine

/-! ### The queue -/

theorem fetch_of_stim_nil {s : State} (h : s.stim = []) : fetch s = quietCycle := by
  simp [fetch, h]

theorem fetch_of_stim_cons {s : State} {u : Stimulus} {rest : List Stimulus} (h : s.stim = u :: rest) : fetch s = u := by
  simp [fetch, h]

/-- With nothing pending there is nothing to take off the queue. -/
theorem advance_of_stim_nil {s : State} (h : s.stim = []) : advance s = s := by
  cases s
  simp_all [advance]

theorem advance_of_stim_cons {s : State} {u : Stimulus} {rest : List Stimulus} (h : s.stim = u :: rest) :
    advance s = { s with stim := rest } := by
  simp [advance, h]

/-- The stimulus word of kind 0000 with zero fields is a `CTL` (30_encoding R98). -/
@[simp] theorem decode_quietCycle : decode quietCycle = .ok .ctl := rfl

/-! ### The step -/

theorem step_of_decode_ok {s : State} {i : Instr} (h : decode (fetch s) = .ok i) : step s = exec i (advance s) := by
  simp only [step, h]

theorem step_of_decode_error {s : State} {e : DecodeError} (h : decode (fetch s) = .error e) :
    step s = .refused (.illFormed e) := by
  simp only [step, h, refuseIllFormed]

end Sys2Proof.Machine

namespace Sys2Proof

open Machine

/-- Settles O6: the queue decides what is fetched and what is left, and the decoder decides between `exec` and the refusal. -/
theorem stepRunsDecodedStimulus : Obligations.StepRunsDecodedStimulus := by
  intro s
  refine ⟨fun u rest i hstim hdec => ?decodes, fun u rest e hstim hdec => ?illFormed, fun hstim => ?nothingPending⟩
  case decodes =>
    have hfetch : decode (fetch s) = .ok i := by rw [fetch_of_stim_cons hstim, hdec]
    rw [step_of_decode_ok hfetch, advance_of_stim_cons hstim]
  case illFormed =>
    have hfetch : decode (fetch s) = .error e := by rw [fetch_of_stim_cons hstim, hdec]
    exact step_of_decode_error hfetch
  case nothingPending =>
    have hfetch : decode (fetch s) = .ok .ctl := by rw [fetch_of_stim_nil hstim, decode_quietCycle]
    rw [step_of_decode_ok hfetch, advance_of_stim_nil hstim]

end Sys2Proof
end

section
/-! What the five events can answer, and what each agent leaves as it was (00_scope R9, 10_state R46). -/

namespace Sys2Proof.Machine

/-! ### The events -/

/-- The five events of 00_scope R9. -/
theorem isEvent_cases {i : Instr} (h : i.isEvent = true) :
    (∃ dip resOk, i = .reset dip resOk) ∨ i = .ctl ∨ i = .tick ∨ (∃ rC rW, i = .sample rC rW) ∨ ∃ r, i = .rsp r := by
  cases i with
  | reset dip resOk => exact .inl ⟨dip, resOk, rfl⟩
  | ctl => exact .inr (.inl rfl)
  | tick => exact .inr (.inr (.inl rfl))
  | sample rC rW => exact .inr (.inr (.inr (.inl ⟨rC, rW, rfl⟩)))
  | rsp r => exact .inr (.inr (.inr (.inr ⟨r, rfl⟩)))
  | _ => exact Bool.noConfusion h

/-- Everything a RESET can answer (70 R310, R311). -/
theorem execReset_next {dip : BitVec 32} {resOk : Bool} {s t : State} (h : exec (.reset dip resOk) s = .next t) :
    (resOk = true ∧ t = resetRegs dip s) ∨
    (resOk = false ∧ t = (resetRegs dip s).withCtl (fatalRegs CtlRegs.reset .resourceBusy)) := by
  cases resOk
  · exact .inr ⟨rfl, by cases h; rfl⟩
  · exact .inl ⟨rfl, by cases h; rfl⟩

/-- Everything a CTL can answer (44 R171). -/
theorem execCtl_next_cases {s t : State} (h : exec .ctl s = .next t) :
    (s.ctl.phase = .boot ∧ t = bootOnCtl s.quiet) ∨ (s.ctl.phase = .start ∧ t = startOnCtl s.quiet) ∨
    (s.ctl.phase = .select ∧ selectOnCtl s.quiet = .next t) ∨ (s.ctl.phase = .settle ∧ t = settleOnCtl s.quiet) ∨
    (s.ctl.phase = .archive ∧ t = archiveOnCtl s.quiet) ∨ (s.ctl.phase = .next ∧ t = nextOnCtl s.quiet) ∨
    ((s.ctl.phase = .idle ∨ s.ctl.phase = .fatal ∨ isWait s.ctl.phase = true) ∧ t = s.quiet) := by
  simp only [exec, execCtl] at h
  rcases whileRunning_next h with ⟨hp, rfl⟩ | ⟨hp, hk⟩
  · simp [hp]
  · rw [State.quiet_ctl] at hk
    cases hc : s.ctl.phase <;> simp_all [isWait]

/-- Everything an RSP can answer (44 R172, 47 R254). -/
theorem execRsp_next_cases {r : Rsp} {s t : State} (h : exec (.rsp r) s = .next t) :
    (s.ctl.phase = .detect ∧ t = detectOnRsp r s.quiet) ∨ (s.ctl.phase = .read ∧ t = readOnRsp r s.quiet) ∨
    (s.ctl.phase = .write ∧ t = writeOnRsp r s.quiet) ∨ (s.ctl.phase = .verify ∧ t = verifyOnRsp r s.quiet) ∨
    (isWait s.ctl.phase = false ∧ t = s.quiet) := by
  simp only [exec, execRsp] at h
  rcases whileRunning_next h with ⟨hp, rfl⟩ | ⟨hp, hk⟩
  · simp [hp, isWait]
  · rw [State.quiet_ctl] at hk
    cases hc : s.ctl.phase <;> simp_all [isWait]

theorem execTick_of_fatal {s : State} (hp : s.ctl.phase = .fatal) : exec .tick s = .next s.quiet := by
  simp only [exec, execTick, whileRunning_of_fatal hp]

theorem execTick_of_booted {s : State} (hp : s.ctl.phase ≠ .fatal) (hb : s.sched.bootDone = true) :
    exec .tick s = .next (lampTick s.quiet) := by
  simp only [exec, execTick, whileRunning_of_ne hp, State.quiet_sched, hb, if_true]

theorem execTick_of_booting {s : State} (hp : s.ctl.phase ≠ .fatal) (hb : s.sched.bootDone = false) :
    exec .tick s = .next (bootTick s.quiet) := by
  simp only [exec, execTick, whileRunning_of_ne hp, State.quiet_sched, hb, Bool.false_eq_true, if_false]

/-- Everything a TICK can answer (42 R130). -/
theorem execTick_next {s t : State} (h : exec .tick s = .next t) :
    (s.ctl.phase = .fatal ∧ t = s.quiet) ∨
    (s.ctl.phase ≠ .fatal ∧ s.sched.bootDone = true ∧ t = lampTick s.quiet) ∨
    (s.ctl.phase ≠ .fatal ∧ s.sched.bootDone = false ∧ t = bootTick s.quiet) := by
  by_cases hp : s.ctl.phase = .fatal
  · rw [execTick_of_fatal hp] at h
    exact .inl ⟨hp, by cases h; rfl⟩
  · cases hb : s.sched.bootDone with
    | true =>
      rw [execTick_of_booted hp hb] at h
      exact .inr (.inl ⟨hp, rfl, by cases h; rfl⟩)
    | false =>
      rw [execTick_of_booting hp hb] at h
      exact .inr (.inr ⟨hp, rfl, by cases h; rfl⟩)

/-- An RSP outside the wait phases does nothing (47 R254). -/
theorem execRsp_of_not_wait {r : Rsp} {s : State} (h : isWait s.ctl.phase = false) : exec (.rsp r) s = .next s.quiet := by
  simp only [exec, execRsp, whileRunning, State.quiet_ctl]
  cases hp : s.ctl.phase <;> simp_all [isWait]

/-- Everything a SAMPLE can answer (43 R150). -/
theorem execSample_next {rC rW : Bool} {s t : State} (h : exec (.sample rC rW) s = .next t) :
    (s.ctl.phase = .fatal ∧ t = s.quiet) ∨ (s.ctl.phase ≠ .fatal ∧ t = sampleButtons rC rW s.quiet) := by
  simp only [exec, execSample] at h
  rcases whileRunning_next h with ⟨hp, rfl⟩ | ⟨hp, hk⟩
  · exact .inl ⟨hp, rfl⟩
  · exact .inr ⟨hp, by cases hk; rfl⟩

/-! ### The scheduler and the sampler -/

/-- The animation's TICK in its two cases: the next lamp, or the end of the animation (42 R140). -/
theorem bootTick_cases (s : State) :
    (s.sched.bootCtr.toNat < Config.bootLen ∧ bootTick s =
      { s with sched := { s.sched with ledVisible := bootAnim s.sched.bootCtr.toNat, bootCtr := s.sched.bootCtr + 1 },
               out := { s.out with latch := true } }) ∨
    (Config.bootLen ≤ s.sched.bootCtr.toNat ∧ bootTick s =
      { s with sched := { s.sched with ledVisible := 0, bootDone := true }, out := { s.out with latch := true } }) := by
  by_cases h : s.sched.bootCtr.toNat < Config.bootLen
  · exact .inl ⟨h, if_pos h⟩
  · exact .inr ⟨Nat.le_of_not_lt h, if_neg h⟩

/-- The phase counters after a normal TICK, each by its own lamp mode (42 R130). -/
def tickedLamps (s : State) : Vector LampPhase 16 :=
  Vector.ofFn fun i : Slot => blink (recordAt s.ctl i).ledMode (lampAt s.sched i)

theorem lampTick_eq (s : State) :
    lampTick s =
      { s with sched := { s.sched with lamp := tickedLamps s, ledVisible := lampPattern (tickedLamps s) },
               out := { s.out with latch := true } } := by
  simp only [lampTick, renderPattern_eq, State.withSched, tickedLamps]

/-- The hand-off in its three cases (43 R158). -/
theorem handoff_cases (s : State) (eC eW : Bool) :
    (s.ctl.phase = .idle ∧ eC = true ∧ handoff s eC eW = s.withCtl { s.ctl with wf := .check, phase := .start }) ∨
    (s.ctl.phase = .idle ∧ eC = false ∧ eW = true ∧ handoff s eC eW = s.withCtl { s.ctl with wf := .write, phase := .start }) ∨
    ((s.ctl.phase ≠ .idle ∨ (eC = false ∧ eW = false)) ∧ handoff s eC eW = s) := by
  unfold handoff
  by_cases hp : s.ctl.phase = .idle <;> cases eC <;> cases eW <;> simp [hp]

/-- Outside IDLE the hand-off does nothing (43 R158). -/
theorem handoff_idle_or_eq (s : State) (eC eW : Bool) : s.ctl.phase = .idle ∨ handoff s eC eW = s := by
  rcases handoff_cases s eC eW with ⟨hi, -, -⟩ | ⟨hi, -, -, -⟩ | ⟨-, e⟩
  · exact .inl hi
  · exact .inl hi
  · exact .inr e

/-- What a SAMPLE leaves before the hand-off: new debouncers, and `evt` on the pins (43 R150). -/
def sampled (rC rW : Bool) (s : State) : State :=
  { s with samp := { check := (debounce s.samp.check rC).deb, write := (debounce s.samp.write rW).deb },
           out := { s.out with evtCheck := (debounce s.samp.check rC).e, evtWrite := (debounce s.samp.write rW).e } }

theorem sampleButtons_eq (rC rW : Bool) (s : State) :
    sampleButtons rC rW s = handoff (sampled rC rW s) (debounce s.samp.check rC).e (debounce s.samp.write rW).e := rfl

/-- The hand-off writes `phase` and `wf` only (10_state R46). -/
theorem handoff_eq (s : State) (eC eW : Bool) :
    handoff s eC eW = s.withCtl { s.ctl with phase := (handoff s eC eW).ctl.phase, wf := (handoff s eC eW).ctl.wf } := by
  rcases handoff_cases s eC eW with ⟨-, -, e⟩ | ⟨-, -, -, e⟩ | ⟨-, e⟩ <;> rw [e] <;> rfl

/-! ### The Controller -/

/-- What no part of the Controller writes: the other agents' registers, the host's side, and the pins of `evt` (10_state R46). -/
structure ControllerFrame (s t : State) : Prop where
  sched : t.sched = s.sched
  samp : t.samp = s.samp
  speedCfg : t.speedCfg = s.speedCfg
  stIdx : t.stIdx = s.stIdx
  stim : t.stim = s.stim
  tSettle : t.tSettle = s.tSettle
  evtCheck : t.out.evtCheck = s.out.evtCheck
  evtWrite : t.out.evtWrite = s.out.evtWrite

theorem ControllerFrame.refl (s : State) : ControllerFrame s s := ⟨rfl, rfl, rfl, rfl, rfl, rfl, rfl, rfl⟩

theorem ControllerFrame.trans {s t u : State} (h : ControllerFrame s t) (k : ControllerFrame t u) : ControllerFrame s u :=
  ⟨k.sched.trans h.sched, k.samp.trans h.samp, k.speedCfg.trans h.speedCfg, k.stIdx.trans h.stIdx, k.stim.trans h.stim,
   k.tSettle.trans h.tSettle, k.evtCheck.trans h.evtCheck, k.evtWrite.trans h.evtWrite⟩

theorem controllerFrame_withCtl (s : State) (c : CtlRegs) : ControllerFrame s (s.withCtl c) :=
  ⟨rfl, rfl, rfl, rfl, rfl, rfl, rfl, rfl⟩

theorem controllerFrame_issueCommand (s : State) (cmd : FaCmd) : ControllerFrame s (issueCommand s cmd) :=
  ⟨rfl, rfl, rfl, rfl, rfl, rfl, rfl, rfl⟩

theorem controllerFrame_emitStore (s : State) : ControllerFrame s (emitStore s) :=
  ⟨rfl, rfl, rfl, rfl, rfl, rfl, rfl, rfl⟩

theorem controllerFrame_bootOnCtl (s : State) : ControllerFrame s (bootOnCtl s) := by
  unfold bootOnCtl
  split
  · exact controllerFrame_withCtl s _
  · exact .refl s

theorem controllerFrame_settleOnCtl (s : State) : ControllerFrame s (settleOnCtl s) := by
  rcases settleOnCtl_cases s with ⟨-, e⟩ | ⟨cmd, -, e⟩ <;> rw [e]
  · exact controllerFrame_withCtl s _
  · exact controllerFrame_issueCommand s cmd

theorem controllerFrame_nextOnCtl (s : State) : ControllerFrame s (nextOnCtl s) := by
  rcases nextOnCtl_cases s with ⟨-, e⟩ | ⟨-, p, -, e⟩ <;> rw [e] <;> exact controllerFrame_withCtl s _

/-- Everything SELECT can answer (44 R178). -/
theorem selectOnCtl_next {s t : State} (h : selectOnCtl s = .next t) :
    (15 < s.ctl.cur.toNat ∧ t = s.withCtl (fatalRegs s.ctl .addressOutOfRange)) ∨
    (s.ctl.cur.toNat ≤ 15 ∧
      t = s.withCtl (selectedRegs { s.ctl with muxAddr := BitVec.ofNat 4 s.ctl.cur.toNat } s.tSettle)) := by
  rcases selectThen_next h with ⟨hn, rfl⟩ | ⟨hn, hk⟩
  · exact .inl ⟨hn, rfl⟩
  · exact .inr ⟨hn, by cases hk; rfl⟩

theorem controllerFrame_selectOnCtl {s t : State} (h : selectOnCtl s = .next t) : ControllerFrame s t := by
  rcases selectOnCtl_next h with ⟨-, rfl⟩ | ⟨-, rfl⟩ <;> exact controllerFrame_withCtl s _

/-! ### The answers -/

theorem isTarget_iff {cur : BitVec 5} : isTarget cur = true ↔ 1 ≤ cur.toNat := decide_eq_true_iff

theorem isTarget_eq_false_iff {cur : BitVec 5} : isTarget cur = false ↔ cur = 0 := by
  rw [isTarget, decide_eq_false_iff_not, ← BitVec.toNat_inj]
  simp

/-- An answer of class `PRES` reports a chip, any other does not (45 R201). -/
theorem classify_eq_pres_iff {r : Rsp} : classify r.status r.flag = .pres ↔ reportsChip r := by
  unfold classify reportsChip
  split_ifs <;> simp_all

/-- The registers after slot 0's record became `r0` and `ABORT(code)` was done (44 R182). -/
def abortedWith (c : CtlRegs) (r0 : SlotState) (code : ErrCode) : CtlRegs := abortRegs (setRecord c 0 r0) code

/-- The DETECT answer for slot 0 in a CHECK (45 R203). -/
theorem refDetectedInCheck_cases (r : Rsp) (s : State) :
    (reportsChip r ∧ refDetectedInCheck r s =
      s.withCtl (slotDone { setRecord s.ctl 0 { recordAt s.ctl 0 with presence := .present, sizeMatch := .matching } with
        refSize := r.size, refValid := true })) ∨
    (¬ reportsChip r ∧ refDetectedInCheck r s =
      s.withCtl (abortedWith s.ctl { recordAt s.ctl 0 with presence := .absent } .noChipDetected)) := by
  rw [← classify_eq_pres_iff]
  unfold refDetectedInCheck
  cases classify r.status r.flag with
  | pres => exact .inl ⟨rfl, rfl⟩
  | abs => exact .inr ⟨by simp, rfl⟩
  | err => exact .inr ⟨by simp, rfl⟩

/-- The DETECT answer for slot 0 in a WRITE (46 R222). -/
theorem refDetectedInWrite_cases (r : Rsp) (s : State) :
    (reportsChip r ∧ refDetectedInWrite r s =
      issueCommand (s.withCtl (rederive
        { setRecord s.ctl 0 { recordAt s.ctl 0 with presence := .present, sizeMatch := .matching } with
          refSize := r.size, refValid := true, act := true })) .read) ∨
    (¬ reportsChip r ∧ refDetectedInWrite r s =
      s.withCtl (abortedWith s.ctl { recordAt s.ctl 0 with presence := .absent } .noChipDetected)) := by
  rw [← classify_eq_pres_iff]
  unfold refDetectedInWrite
  cases classify r.status r.flag with
  | pres => exact .inl ⟨rfl, rfl⟩
  | abs => exact .inr ⟨by simp, rfl⟩
  | err => exact .inr ⟨by simp, rfl⟩

/-- What a target's DETECT answer makes of its record: chip of the reference's size or not, or no chip (45 R204). -/
def detectedStatus (r : Rsp) (refSize : ChipSize) : Presence × SizeMatch :=
  match classify r.status r.flag with
  | .pres => (.present, compareSize r.size refSize)
  | .abs => (.absent, .unknown)
  | .err => (.present, .mismatch)

theorem detectedStatus_cases (r : Rsp) (refSize : ChipSize) :
    detectedStatus r refSize = (.present, .matching) ∨ detectedStatus r refSize = (.present, .mismatch) ∨
    detectedStatus r refSize = (.absent, .unknown) := by
  unfold detectedStatus compareSize
  cases classify r.status r.flag with
  | pres => by_cases h : r.size = refSize <;> simp [h]
  | abs => simp
  | err => simp

/-- The DETECT answer for a target records what it says and ends the slot's turn (45 R204). -/
theorem targetDetected_eq (r : Rsp) (s : State) :
    targetDetected r s = s.withCtl (slotDone (setCurRecord s.ctl fun ri =>
      { ri with presence := (detectedStatus r s.ctl.refSize).1, sizeMatch := (detectedStatus r s.ctl.refSize).2 })) := by
  unfold targetDetected detectedStatus
  cases classify r.status r.flag with
  | pres => cases h : compareSize r.size s.ctl.refSize <;> simp only <;> rfl
  | abs => rfl
  | err => rfl

/-- The DETECT answer by slot and workflow (44 R172). -/
theorem detectOnRsp_cases (r : Rsp) (s : State) :
    (1 ≤ s.ctl.cur.toNat ∧ detectOnRsp r s = targetDetected r s) ∨
    (s.ctl.cur = 0 ∧ s.ctl.wf = .check ∧ detectOnRsp r s = refDetectedInCheck r s) ∨
    (s.ctl.cur = 0 ∧ s.ctl.wf = .write ∧ detectOnRsp r s = refDetectedInWrite r s) ∨
    (s.ctl.cur = 0 ∧ s.ctl.wf = .none ∧ detectOnRsp r s = s) := by
  unfold detectOnRsp
  cases ht : isTarget s.ctl.cur with
  | true => exact .inl ⟨isTarget_iff.mp ht, rfl⟩
  | false =>
    have hcur := isTarget_eq_false_iff.mp ht
    cases hw : s.ctl.wf <;> simp [hcur]

/-- The registers after an OK READ answer (46 R224). -/
def imageTaken (r : Rsp) (s : State) : CtlRegs :=
  { rederive { setRecord s.ctl 0 { recordAt s.ctl 0 with lastOpResult := .success } with
      refImage := some (imageOfRsp r s.freeCtr), act := false } with phase := .archive }

/-- The READ answer: the image is taken, or the workflow aborted (46 R224). -/
theorem readOnRsp_cases (r : Rsp) (s : State) :
    (r.status = .ok ∧ readOnRsp r s =
      { s with ctl := imageTaken r s, freeCtr := freeCtrAfter r s.freeCtr }) ∨
    (r.status ≠ .ok ∧ readOnRsp r s =
      s.withCtl (abortedWith s.ctl { recordAt s.ctl 0 with lastOpResult := .readFailed } .readFailure)) := by
  by_cases h : r.status = .ok
  · exact .inl ⟨h, by simp only [readOnRsp, if_pos h, imageTaken, State.withCtl]⟩
  · exact .inr ⟨h, by simp only [readOnRsp, if_neg h, raiseError, abortedWith, State.withCtl]⟩

/-- Every end of an attempt records its result, clears `act` and ends the slot's turn (46 R228, R230). -/
theorem attemptDone_eq (k : OpResult) (s : State) :
    attemptDone k s =
      s.withCtl (slotDone { setCurRecord s.ctl fun ri => { ri with lastOpResult := k } with act := false }) := by
  cases k <;> rfl

/-- The WRITE answer: on to VERIFY, or the end of the attempt (46 R228). -/
theorem writeOnRsp_cases (r : Rsp) (s : State) :
    (r.status = .ok ∧ writeOnRsp r s = issueCommand s .verify) ∨
    (r.status ≠ .ok ∧ writeOnRsp r s = attemptDone (kindOfWrite r.status) s) := by
  unfold writeOnRsp
  by_cases h : r.status = .ok
  · exact .inl ⟨h, if_pos h⟩
  · exact .inr ⟨h, if_neg h⟩

/-- The image an OK READ answer brings is whole, and is the one the answer carries (10_state R34, 46 R223). -/
theorem imageOfRsp_whole (r : Rsp) (n : Nat) :
    (imageOfRsp r n).len = (imageOfRsp r n).bytes.length ∧ (imageOfRsp r n).hash = Config.hash (imageOfRsp r n).bytes := by
  unfold imageOfRsp
  split <;> exact ⟨rfl, rfl⟩

theorem imageOfRsp_bytes {r : Rsp} {bytes : List Byte} (h : r.image = some bytes) (n : Nat) : (imageOfRsp r n).bytes = bytes := by
  simp only [imageOfRsp, h, imageOfBytes]

/-! ### What a controller event leaves as it was -/

theorem controllerFrame_targetDetected (r : Rsp) (s : State) : ControllerFrame s (targetDetected r s) := by
  rw [targetDetected_eq]
  exact controllerFrame_withCtl s _

theorem controllerFrame_refDetectedInCheck (r : Rsp) (s : State) : ControllerFrame s (refDetectedInCheck r s) := by
  rcases refDetectedInCheck_cases r s with ⟨-, e⟩ | ⟨-, e⟩ <;> rw [e] <;> exact controllerFrame_withCtl s _

theorem controllerFrame_refDetectedInWrite (r : Rsp) (s : State) : ControllerFrame s (refDetectedInWrite r s) := by
  rcases refDetectedInWrite_cases r s with ⟨-, e⟩ | ⟨-, e⟩ <;> rw [e]
  · exact (controllerFrame_withCtl s _).trans (controllerFrame_issueCommand _ _)
  · exact controllerFrame_withCtl s _

theorem controllerFrame_detectOnRsp (r : Rsp) (s : State) : ControllerFrame s (detectOnRsp r s) := by
  rcases detectOnRsp_cases r s with ⟨-, e⟩ | ⟨-, -, e⟩ | ⟨-, -, e⟩ | ⟨-, -, e⟩ <;> rw [e]
  · exact controllerFrame_targetDetected r s
  · exact controllerFrame_refDetectedInCheck r s
  · exact controllerFrame_refDetectedInWrite r s
  · exact .refl s

theorem controllerFrame_readOnRsp (r : Rsp) (s : State) : ControllerFrame s (readOnRsp r s) := by
  rcases readOnRsp_cases r s with ⟨-, e⟩ | ⟨-, e⟩ <;> rw [e]
  · exact ⟨rfl, rfl, rfl, rfl, rfl, rfl, rfl, rfl⟩
  · exact controllerFrame_withCtl s _

theorem controllerFrame_attemptDone (k : OpResult) (s : State) : ControllerFrame s (attemptDone k s) := by
  rw [attemptDone_eq]
  exact controllerFrame_withCtl s _

theorem controllerFrame_writeOnRsp (r : Rsp) (s : State) : ControllerFrame s (writeOnRsp r s) := by
  rcases writeOnRsp_cases r s with ⟨-, e⟩ | ⟨-, e⟩ <;> rw [e]
  · exact controllerFrame_issueCommand s _
  · exact controllerFrame_attemptDone _ s

theorem controllerFrame_archiveOnCtl (s : State) : ControllerFrame s (archiveOnCtl s) :=
  (controllerFrame_emitStore s).trans (controllerFrame_withCtl _ _)

/-- A CTL leaves the other agents' registers and the host's side as they were (10_state R46). -/
theorem controllerFrame_execCtl {s t : State} (h : exec .ctl s = .next t) : ControllerFrame s.quiet t := by
  rcases execCtl_next_cases h with ⟨-, rfl⟩ | ⟨-, rfl⟩ | ⟨-, h⟩ | ⟨-, rfl⟩ | ⟨-, rfl⟩ | ⟨-, rfl⟩ | ⟨-, rfl⟩
  · exact controllerFrame_bootOnCtl _
  · exact controllerFrame_withCtl _ _
  · exact controllerFrame_selectOnCtl h
  · exact controllerFrame_settleOnCtl _
  · exact controllerFrame_archiveOnCtl _
  · exact controllerFrame_nextOnCtl _
  · exact .refl _

/-- An RSP leaves the other agents' registers and the host's side as they were (10_state R46). -/
theorem controllerFrame_execRsp {r : Rsp} {s t : State} (h : exec (.rsp r) s = .next t) : ControllerFrame s.quiet t := by
  rcases execRsp_next_cases h with ⟨-, rfl⟩ | ⟨-, rfl⟩ | ⟨-, rfl⟩ | ⟨-, rfl⟩ | ⟨-, rfl⟩
  · exact controllerFrame_detectOnRsp r _
  · exact controllerFrame_readOnRsp r _
  · exact controllerFrame_writeOnRsp r _
  · exact controllerFrame_attemptDone _ _
  · exact .refl _

/-! ### What a TICK and a SAMPLE write -/

/-- A TICK writes the scheduler's registers and the pins only (10_state R46). -/
theorem execTick_writes {s t : State} (h : exec .tick s = .next t) :
    t.ctl = s.ctl ∧ t.samp = s.samp ∧ t.speedCfg = s.speedCfg := by
  rcases execTick_next h with ⟨-, rfl⟩ | ⟨-, -, rfl⟩ | ⟨-, -, rfl⟩
  · exact ⟨rfl, rfl, rfl⟩
  · rw [lampTick_eq]
    exact ⟨rfl, rfl, rfl⟩
  · rcases bootTick_cases s.quiet with ⟨-, e⟩ | ⟨-, e⟩ <;> rw [e] <;> exact ⟨rfl, rfl, rfl⟩

/-- A SAMPLE writes the sampler's registers and the pins, and its hand-off `phase` and `wf` in IDLE (10_state R46). -/
theorem execSample_writes {s t : State} {rC rW : Bool} (h : exec (.sample rC rW) s = .next t) :
    t.sched = s.sched ∧ t.speedCfg = s.speedCfg ∧ t.ctl = { s.ctl with phase := t.ctl.phase, wf := t.ctl.wf } ∧
    (s.ctl.phase ≠ .idle → t.ctl = s.ctl) := by
  rcases execSample_next h with ⟨-, rfl⟩ | ⟨-, rfl⟩
  · exact ⟨rfl, rfl, rfl, fun _ => rfl⟩
  · rw [sampleButtons_eq]
    rcases handoff_cases (sampled rC rW s.quiet) (debounce s.quiet.samp.check rC).e (debounce s.quiet.samp.write rW).e with
      ⟨hi, -, e⟩ | ⟨hi, -, -, e⟩ | ⟨-, e⟩ <;> rw [e]
    · exact ⟨rfl, rfl, rfl, fun hne => absurd hi hne⟩
    · exact ⟨rfl, rfl, rfl, fun hne => absurd hi hne⟩
    · exact ⟨rfl, rfl, rfl, fun _ => rfl⟩

/-! ### What no operation but RESET writes -/

/-- The sampled configuration and the host's queue and parameter, which no operation but RESET writes (10_state R37). -/
structure HostFrame (s t : State) : Prop where
  speedCfg : t.speedCfg = s.speedCfg
  stim : t.stim = s.stim
  tSettle : t.tSettle = s.tSettle

theorem hostFrame_refl (s : State) : HostFrame s s := ⟨rfl, rfl, rfl⟩

/-- The pulses that end are no part of the frame. -/
theorem hostFrame_of_quiet {s t : State} (h : HostFrame s.quiet t) : HostFrame s t := ⟨h.speedCfg, h.stim, h.tSettle⟩

theorem ControllerFrame.host {s t : State} (h : ControllerFrame s t) : HostFrame s t := ⟨h.speedCfg, h.stim, h.tSettle⟩

theorem hostFrame_bootTick (s : State) : HostFrame s (bootTick s) := by
  rcases bootTick_cases s with ⟨-, e⟩ | ⟨-, e⟩ <;> rw [e] <;> exact ⟨rfl, rfl, rfl⟩

theorem hostFrame_lampTick (s : State) : HostFrame s (lampTick s) := by
  rw [lampTick_eq]
  exact ⟨rfl, rfl, rfl⟩

theorem hostFrame_sampleButtons (rC rW : Bool) (s : State) : HostFrame s (sampleButtons rC rW s) := by
  rw [sampleButtons_eq, handoff_eq]
  exact ⟨rfl, rfl, rfl⟩

theorem hostFrame_debounceButton (b : Button) (f : BitVec 4 → DebounceResult) (s : State) : HostFrame s (debounceButton s b f) := by
  cases b <;> exact ⟨rfl, rfl, rfl⟩

theorem hostFrame_blinkSlot (i : Slot) (f : LampPhase → LampPhase) (s : State) : HostFrame s (blinkSlot s i f) := ⟨rfl, rfl, rfl⟩

theorem hostFrame_renderPattern (p : Pattern) (s : State) : HostFrame s (renderPattern s p) := ⟨rfl, rfl, rfl⟩

/-- An agent's operation keeps what its running part keeps; in FATAL it does nothing. -/
theorem hostFrame_running {s t : State} {f : State → State} (hf : ∀ u, HostFrame u (f u))
    (h : whileRunning s (fun u => .next (f u)) = .next t) : HostFrame s t := by
  rcases whileRunning_next h with ⟨-, rfl⟩ | ⟨-, hk⟩
  · exact hostFrame_of_quiet (hostFrame_refl s.quiet)
  · cases hk
    exact hostFrame_of_quiet (hf s.quiet)

/-- A phase that does nothing on the event it is given keeps everything. -/
theorem hostFrame_waiting {s t : State} (h : whileRunning s (fun u => .next u) = .next t) : HostFrame s t :=
  hostFrame_running (f := fun u => u) hostFrame_refl h

/-- No operation but RESET writes these (10_state R37; the operations by themselves: log entry 8). -/
theorem hostFrame_exec {i : Instr} {s t : State} (hi : notReset i = true) (h : exec i s = .next t) : HostFrame s t := by
  cases i with
  | reset dip resOk => exact absurd hi Bool.false_ne_true
  | ctl => exact hostFrame_of_quiet (controllerFrame_execCtl h).host
  | rsp r => exact hostFrame_of_quiet (controllerFrame_execRsp h).host
  | tick =>
    rcases execTick_next h with ⟨-, rfl⟩ | ⟨-, -, rfl⟩ | ⟨-, -, rfl⟩
    · exact hostFrame_of_quiet (hostFrame_refl _)
    · exact hostFrame_of_quiet (hostFrame_lampTick _)
    · exact hostFrame_of_quiet (hostFrame_bootTick _)
  | sample rC rW => exact hostFrame_running (f := sampleButtons rC rW) (hostFrame_sampleButtons rC rW) h
  | phBoot e =>
    cases e with
    | ctl => exact hostFrame_running (f := bootOnCtl) (fun u => (controllerFrame_bootOnCtl u).host) h
    | rsp r => exact hostFrame_waiting h
  | phIdle e => cases e <;> exact hostFrame_waiting h
  | phStart e =>
    cases e with
    | ctl => exact hostFrame_running (f := startOnCtl) (fun u => (controllerFrame_withCtl u _).host) h
    | rsp r => exact hostFrame_waiting h
  | phSelect e =>
    cases e with
    | ctl =>
      rcases whileRunning_next (k := selectOnCtl) h with ⟨-, rfl⟩ | ⟨-, hk⟩
      · exact hostFrame_of_quiet (hostFrame_refl _)
      · exact hostFrame_of_quiet (controllerFrame_selectOnCtl hk).host
    | rsp r => exact hostFrame_waiting h
  | phSettle e =>
    cases e with
    | ctl => exact hostFrame_running (f := settleOnCtl) (fun u => (controllerFrame_settleOnCtl u).host) h
    | rsp r => exact hostFrame_waiting h
  | phDetect e =>
    cases e with
    | ctl => exact hostFrame_waiting h
    | rsp r => exact hostFrame_running (f := detectOnRsp r) (fun u => (controllerFrame_detectOnRsp r u).host) h
  | phRead e =>
    cases e with
    | ctl => exact hostFrame_waiting h
    | rsp r => exact hostFrame_running (f := readOnRsp r) (fun u => (controllerFrame_readOnRsp r u).host) h
  | phArchive e =>
    cases e with
    | ctl => exact hostFrame_running (f := archiveOnCtl) (fun u => (controllerFrame_archiveOnCtl u).host) h
    | rsp r => exact hostFrame_waiting h
  | phWrite e =>
    cases e with
    | ctl => exact hostFrame_waiting h
    | rsp r => exact hostFrame_running (f := writeOnRsp r) (fun u => (controllerFrame_writeOnRsp r u).host) h
  | phVerify e =>
    cases e with
    | ctl => exact hostFrame_waiting h
    | rsp r => exact hostFrame_running (f := verifyOnRsp r) (fun u => (controllerFrame_attemptDone _ u).host) h
  | phNext e =>
    cases e with
    | ctl => exact hostFrame_running (f := nextOnCtl) (fun u => (controllerFrame_nextOnCtl u).host) h
    | rsp r => exact hostFrame_waiting h
  | phFatal e => cases e <;> cases h <;> exact ⟨rfl, rfl, rfl⟩
  | blOff k => exact hostFrame_running (hostFrame_blinkSlot k blinkOff) h
  | blOn k => exact hostFrame_running (hostFrame_blinkSlot k blinkOn) h
  | blSlow k => exact hostFrame_running (hostFrame_blinkSlot k blinkSlow) h
  | blFast k => exact hostFrame_running (hostFrame_blinkSlot k blinkFast) h
  | blData k => exact hostFrame_running (hostFrame_blinkSlot k blinkData) h
  | dbIdle b r => exact hostFrame_running (hostFrame_debounceButton b fun cnt => debounceIdle cnt r) h
  | dbPend b r => exact hostFrame_running (hostFrame_debounceButton b fun cnt => debouncePend cnt r) h
  | dbConf b r => exact hostFrame_running (hostFrame_debounceButton b fun cnt => debounceConf cnt r) h
  | dbRel b r => exact hostFrame_running (hostFrame_debounceButton b fun cnt => debounceRel cnt r) h
  | detect => exact hostFrame_running (fun u => (controllerFrame_issueCommand u .detect).host) h
  | read => exact hostFrame_running (fun u => (controllerFrame_issueCommand u .read).host) h
  | write => exact hostFrame_running (fun u => (controllerFrame_issueCommand u .write).host) h
  | verify => exact hostFrame_running (fun u => (controllerFrame_issueCommand u .verify).host) h
  | select n =>
    simp only [exec, execSelect] at h
    rcases whileRunning_next h with ⟨-, rfl⟩ | ⟨-, hk⟩
    · exact ⟨rfl, rfl, rfl⟩
    · rcases selectThen_next hk with ⟨-, rfl⟩ | ⟨-, hk'⟩
      · exact ⟨rfl, rfl, rfl⟩
      · cases hk'; exact ⟨rfl, rfl, rfl⟩
  | stat k => cases h; exact ⟨rfl, rfl, rfl⟩
  | store => exact hostFrame_running (fun u => (controllerFrame_emitStore u).host) h
  | render p => exact hostFrame_running (hostFrame_renderPattern p) h

/-- No operation writes the queue of pending stimuli (log entry 6). -/
theorem exec_stim {i : Instr} {s t : State} (h : exec i s = .next t) : t.stim = s.stim := by
  cases hi : notReset i with
  | true => exact (hostFrame_exec hi h).stim
  | false =>
    obtain ⟨dip, resOk, rfl⟩ : ∃ dip resOk, i = .reset dip resOk := by
      cases i with
      | reset dip resOk => exact ⟨dip, resOk, rfl⟩
      | _ => exact Bool.noConfusion hi
    rcases execReset_next h with ⟨-, rfl⟩ | ⟨-, rfl⟩ <;> rfl

end Sys2Proof.Machine
end

section
/-! What each agent's events read of the other agents' registers (10_state R46). -/

namespace Sys2Proof.Machine

/-! ### The Controller -/

/-- The two states agree on what the Controller writes: its registers and the pins. -/
structure SameController (s s' : State) : Prop where
  ctl : s.ctl = s'.ctl
  out : s.out = s'.out

namespace SameController

variable {s s' : State} (h : SameController s s')
include h

theorem withCtl (c : CtlRegs) : SameController (s.withCtl c) (s'.withCtl c) := ⟨rfl, h.out⟩

theorem issueCommand (cmd : FaCmd) : SameController (issueCommand s cmd) (issueCommand s' cmd) := by
  rw [issueCommand_eq, issueCommand_eq, h.ctl, h.out]
  exact ⟨rfl, rfl⟩

theorem bootOnCtl (hb : s.sched.bootDone = s'.sched.bootDone) : SameController (bootOnCtl s) (bootOnCtl s') := by
  unfold Machine.bootOnCtl State.toPhase
  rw [hb, h.ctl]
  split
  · exact h.withCtl _
  · exact h

theorem startOnCtl : SameController (startOnCtl s) (startOnCtl s') := by
  unfold Machine.startOnCtl
  rw [h.ctl]
  exact h.withCtl _

theorem selectOnCtl {t t' : State} (hn : s.tSettle = s'.tSettle) (ht : selectOnCtl s = .next t) (ht' : selectOnCtl s' = .next t') :
    SameController t t' := by
  have hcur : s.ctl.cur = s'.ctl.cur := congrArg _ h.ctl
  rcases selectOnCtl_next ht with ⟨hlt, rfl⟩ | ⟨hle, rfl⟩ <;> rcases selectOnCtl_next ht' with ⟨hlt', rfl⟩ | ⟨hle', rfl⟩
  · rw [h.ctl]
    exact h.withCtl _
  · rw [hcur] at hlt
    omega
  · rw [hcur] at hle
    omega
  · rw [h.ctl, hn]
    exact h.withCtl _

theorem settleOnCtl : SameController (settleOnCtl s) (settleOnCtl s') := by
  unfold Machine.settleOnCtl
  rw [h.ctl]
  split
  · exact h.withCtl _
  · split <;> exact h.issueCommand _

theorem archiveOnCtl : SameController (archiveOnCtl s) (archiveOnCtl s') := by
  unfold Machine.archiveOnCtl
  rw [emitStore_eq, emitStore_eq, h.ctl, h.out]
  exact ⟨rfl, rfl⟩

theorem nextOnCtl : SameController (nextOnCtl s) (nextOnCtl s') := by
  unfold Machine.nextOnCtl
  rw [h.ctl]
  dsimp only
  split <;> exact h.withCtl _

theorem refDetectedInCheck (r : Rsp) : SameController (refDetectedInCheck r s) (refDetectedInCheck r s') := by
  unfold Machine.refDetectedInCheck
  rw [h.ctl]
  split <;> exact h.withCtl _

theorem refDetectedInWrite (r : Rsp) : SameController (refDetectedInWrite r s) (refDetectedInWrite r s') := by
  unfold Machine.refDetectedInWrite
  rw [h.ctl]
  split
  · exact (h.withCtl _).issueCommand _
  · exact h.withCtl _
  · exact h.withCtl _

theorem detectOnRsp (r : Rsp) : SameController (detectOnRsp r s) (detectOnRsp r s') := by
  unfold Machine.detectOnRsp
  rw [targetDetected_eq, targetDetected_eq, h.ctl]
  split
  · exact h.withCtl _
  · split
    · exact h.refDetectedInCheck r
    · exact h.refDetectedInWrite r
    · exact h

theorem readOnRsp (r : Rsp) (hn : s.freeCtr = s'.freeCtr) : SameController (readOnRsp r s) (readOnRsp r s') := by
  have hi : imageTaken r s = imageTaken r s' := by rw [imageTaken, imageTaken, h.ctl, hn]
  rcases readOnRsp_cases r s with ⟨hok, e⟩ | ⟨hok, e⟩ <;> rcases readOnRsp_cases r s' with ⟨hok', e'⟩ | ⟨hok', e'⟩
  · rw [e, e', hi]
    exact ⟨rfl, h.out⟩
  · exact absurd hok hok'
  · exact absurd hok' hok
  · rw [e, e', h.ctl]
    exact h.withCtl _

theorem attemptDone (k : OpResult) : SameController (attemptDone k s) (attemptDone k s') := by
  rw [attemptDone_eq, attemptDone_eq, h.ctl]
  exact h.withCtl _

theorem writeOnRsp (r : Rsp) : SameController (writeOnRsp r s) (writeOnRsp r s') := by
  unfold Machine.writeOnRsp
  split
  · exact h.issueCommand _
  · exact h.attemptDone _

end SameController

theorem sameController_quiet {s s' : State} (h : s.ctl = s'.ctl) : SameController s.quiet s'.quiet := ⟨h, rfl⟩

/-- A CTL reads of the other agents only whether the animation is over, and the parameter T_SETTLE (10_state R46). -/
theorem execCtl_reads {s s' t t' : State} (hc : s.ctl = s'.ctl) (hb : s.sched.bootDone = s'.sched.bootDone)
    (hn : s.tSettle = s'.tSettle) (ht : exec .ctl s = .next t) (ht' : exec .ctl s' = .next t') : SameController t t' := by
  have hq := sameController_quiet hc
  have hp : s.ctl.phase = s'.ctl.phase := congrArg _ hc
  simp only [exec, execCtl, whileRunning, hp, State.quiet_ctl] at ht ht'
  cases hp' : s'.ctl.phase <;> simp only [hp', reduceCtorEq, if_false, if_true, Host.Outcome.next.injEq] at ht ht'
  case boot => subst ht ht'; exact hq.bootOnCtl hb
  case start => subst ht ht'; exact hq.startOnCtl
  case select => exact hq.selectOnCtl hn ht ht'
  case settle => subst ht ht'; exact hq.settleOnCtl
  case archive => subst ht ht'; exact hq.archiveOnCtl
  case next => subst ht ht'; exact hq.nextOnCtl
  all_goals subst ht ht'; exact hq

/-- An RSP reads nothing of the other agents (10_state R46). -/
theorem execRsp_reads {s s' t t' : State} {r : Rsp} (hc : s.ctl = s'.ctl) (hn : s.freeCtr = s'.freeCtr)
    (ht : exec (.rsp r) s = .next t) (ht' : exec (.rsp r) s' = .next t') : SameController t t' := by
  have hq := sameController_quiet hc
  have hp : s.ctl.phase = s'.ctl.phase := congrArg _ hc
  simp only [exec, execRsp, whileRunning, hp, State.quiet_ctl] at ht ht'
  cases hp' : s'.ctl.phase <;> simp only [hp', reduceCtorEq, if_false, if_true, Host.Outcome.next.injEq] at ht ht'
  case detect => subst ht ht'; exact hq.detectOnRsp r
  case read => subst ht ht'; exact hq.readOnRsp r hn
  case write => subst ht ht'; exact hq.writeOnRsp r
  case verify => subst ht ht'; exact hq.attemptDone _
  all_goals subst ht ht'; exact hq

/-! ### The scheduler -/

theorem tickedLamps_congr {s s' : State} (hd : s.sched = s'.sched)
    (hl : ∀ i : Slot, (recordAt s.ctl i).ledMode = (recordAt s'.ctl i).ledMode) : tickedLamps s = tickedLamps s' := by
  simp only [tickedLamps, hd, hl]

theorem bootTick_congr {s s' : State} (hd : s.sched = s'.sched) : (bootTick s).sched = (bootTick s').sched := by
  unfold bootTick
  simp only [renderPattern_eq, hd]
  split <;> rfl

/-- A TICK reads of the Controller only the lamp modes and whether it is in FATAL (10_state R46). -/
theorem execTick_reads {s s' t t' : State} (hd : s.sched = s'.sched)
    (hl : ∀ i : Slot, (recordAt s.ctl i).ledMode = (recordAt s'.ctl i).ledMode)
    (hf : s.ctl.phase = .fatal ↔ s'.ctl.phase = .fatal) (ht : exec .tick s = .next t) (ht' : exec .tick s' = .next t') :
    t.sched = t'.sched := by
  have hb' : s'.sched.bootDone = s.sched.bootDone := congrArg _ hd.symm
  rcases execTick_next ht with ⟨hp, rfl⟩ | ⟨hp, hb, rfl⟩ | ⟨hp, hb, rfl⟩
  · rw [execTick_of_fatal (hf.mp hp)] at ht'
    cases ht'
    exact hd
  · rw [execTick_of_booted (mt hf.mpr hp) (hb'.trans hb)] at ht'
    cases ht'
    have hlamp : tickedLamps s.quiet = tickedLamps s'.quiet := tickedLamps_congr hd hl
    simp only [lampTick_eq, hlamp, State.quiet_sched, hd]
  · rw [execTick_of_booting (mt hf.mpr hp) (hb'.trans hb)] at ht'
    cases ht'
    exact bootTick_congr hd

/-! ### The sampler -/

/-- The hand-off reads of the Controller only `phase` (10_state R46). -/
theorem handoff_reads {s s' : State} (hp : s.ctl.phase = s'.ctl.phase) (eC eW : Bool) :
    (handoff s eC eW).ctl.phase = (handoff s' eC eW).ctl.phase ∧
    ((handoff s eC eW).ctl.phase ≠ s.ctl.phase → (handoff s eC eW).ctl.wf = (handoff s' eC eW).ctl.wf) := by
  unfold handoff
  rw [hp]
  split
  · exact ⟨rfl, fun _ => rfl⟩
  · split
    · exact ⟨rfl, fun _ => rfl⟩
    · exact ⟨hp, fun hne => absurd hp hne⟩

/-- The sampler's registers after a SAMPLE: the hand-off does not write them. -/
theorem handoff_samp (s : State) (eC eW : Bool) : (handoff s eC eW).samp = s.samp := by
  rw [handoff_eq]
  rfl

/-- A SAMPLE reads of the Controller only `phase` (10_state R46). -/
theorem execSample_reads {s s' t t' : State} {rC rW : Bool} (hd : s.samp = s'.samp) (hp : s.ctl.phase = s'.ctl.phase)
    (ht : exec (.sample rC rW) s = .next t) (ht' : exec (.sample rC rW) s' = .next t') :
    t.samp = t'.samp ∧ t.ctl.phase = t'.ctl.phase ∧ (t.ctl.phase ≠ s.ctl.phase → t.ctl.wf = t'.ctl.wf) := by
  rcases execSample_next ht with ⟨hf, rfl⟩ | ⟨hf, rfl⟩ <;> rcases execSample_next ht' with ⟨hf', rfl⟩ | ⟨hf', rfl⟩
  · exact ⟨hd, hp, fun hne => absurd rfl hne⟩
  · exact absurd (hp ▸ hf) hf'
  · exact absurd (hp ▸ hf') hf
  · have hs : (sampled rC rW s.quiet).samp = (sampled rC rW s'.quiet).samp := by simp only [sampled, State.quiet_samp, hd]
    rw [sampleButtons_eq, sampleButtons_eq, State.quiet_samp, State.quiet_samp, handoff_samp, handoff_samp, hs, hd]
    exact ⟨rfl, handoff_reads (s := sampled rC rW s.quiet) (s' := sampled rC rW s'.quiet) hp _ _⟩

end Sys2Proof.Machine

namespace Sys2Proof

open Machine

/-- Settles O17: what each event writes, then what it reads. -/
theorem singleWriterDiscipline : Obligations.SingleWriterDiscipline := by
  intro s
  refine ⟨fun t ht => execTick_writes ht, fun rC rW t ht => execSample_writes ht, fun t ht => ?ctlWrites,
    fun r t ht => ?rspWrites, fun hidle => ⟨execCtl_idle hidle, fun r => execRsp_of_not_wait (by rw [hidle]; rfl)⟩,
    fun s' t t' hd hl hf ht ht' => execTick_reads hd hl hf ht ht',
    fun s' t t' rC rW hd hp ht ht' => execSample_reads hd hp ht ht', fun s' t t' hc hb hn ht ht' => ?ctlReads,
    fun s' t t' r hc hn ht ht' => ?rspReads⟩
  case ctlWrites =>
    have hframe := controllerFrame_execCtl ht
    exact ⟨hframe.sched, hframe.samp, hframe.speedCfg⟩
  case rspWrites =>
    have hframe := controllerFrame_execRsp ht
    exact ⟨hframe.sched, hframe.samp, hframe.speedCfg⟩
  case ctlReads =>
    have hsame := execCtl_reads hc hb hn ht ht'
    exact ⟨hsame.ctl, hsame.out⟩
  case rspReads =>
    have hsame := execRsp_reads hc hn ht ht'
    exact ⟨hsame.ctl, hsame.out⟩

end Sys2Proof
end

section
/-! Where the reference image comes from and where it goes (10_state R34). -/

namespace Sys2Proof.Machine

/-- NEXT drops the image only where it ends the workflow (44 R181). -/
theorem nextOnCtl_refImage (s : State) :
    (nextOnCtl s).ctl.refImage = s.ctl.refImage ∨
    (s.ctl.cur = 15 ∧ (nextOnCtl s).ctl.refImage = none ∧ (nextOnCtl s).ctl.phase = .idle) := by
  rcases nextOnCtl_cases s with ⟨hcur, e⟩ | ⟨-, p, -, e⟩ <;> rw [e]
  · exact .inr ⟨BitVec.eq_of_toNat_eq hcur, rfl, rfl⟩
  · exact .inl rfl

theorem selectedRegs_refImage (c : CtlRegs) (n : BitVec 16) : (selectedRegs c n).refImage = c.refImage := by
  rcases selectedRegs_cases c n with ⟨-, e⟩ | ⟨-, e⟩ <;> simp [e]

theorem settleOnCtl_refImage (s : State) : (settleOnCtl s).ctl.refImage = s.ctl.refImage := by
  rcases settleOnCtl_cases s with ⟨-, e⟩ | ⟨cmd, -, e⟩ <;> rw [e] <;> rfl

theorem bootOnCtl_refImage (s : State) : (bootOnCtl s).ctl.refImage = s.ctl.refImage := by
  unfold bootOnCtl
  split <;> rfl

/-- A CTL keeps the image but in START and in the NEXT that ends the workflow. -/
theorem execCtl_refImage {s t : State} (h : exec .ctl s = .next t) :
    t.ctl.refImage = s.ctl.refImage ∨
    (t.ctl.refImage = none ∧
      (s.ctl.phase = .start ∨ (s.ctl.phase = .next ∧ s.ctl.cur = 15 ∧ t.ctl.phase = .idle))) := by
  rcases execCtl_next_cases h with ⟨-, rfl⟩ | ⟨hp, rfl⟩ | ⟨-, hk⟩ | ⟨-, rfl⟩ | ⟨-, rfl⟩ | ⟨hp, rfl⟩ | ⟨-, rfl⟩
  · exact .inl (bootOnCtl_refImage _)
  · exact .inr ⟨rfl, .inl hp⟩
  · rcases selectOnCtl_next hk with ⟨-, rfl⟩ | ⟨-, rfl⟩
    · exact .inl rfl
    · exact .inl (selectedRegs_refImage _ _)
  · exact .inl (settleOnCtl_refImage _)
  · exact .inl rfl
  · rcases nextOnCtl_refImage s.quiet with e | ⟨hcur, e, hidle⟩
    · exact .inl e
    · exact .inr ⟨e, .inr ⟨hp, hcur, hidle⟩⟩
  · exact .inl rfl

theorem setCurRecord_refImage (c : CtlRegs) (f : SlotState → SlotState) : (setCurRecord c f).refImage = c.refImage := by
  rw [setCurRecord_eq]

theorem targetDetected_refImage (r : Rsp) (s : State) : (targetDetected r s).ctl.refImage = s.ctl.refImage := by
  rw [targetDetected_eq, State.withCtl_ctl, slotDone_refImage, setCurRecord_refImage]

theorem attemptDone_refImage (k : OpResult) (s : State) : (attemptDone k s).ctl.refImage = s.ctl.refImage := by
  rw [attemptDone_eq, State.withCtl_ctl, slotDone_refImage, setCurRecord_refImage]

/-- A DETECT answer keeps the image, or reports no chip in slot 0 and aborts (45 R203, 46 R222). -/
theorem detectOnRsp_refImage (r : Rsp) (s : State) :
    (detectOnRsp r s).ctl.refImage = s.ctl.refImage ∨
    (¬ reportsChip r ∧ (detectOnRsp r s).ctl.refImage = none ∧ (detectOnRsp r s).ctl.gerr = true ∧
      (detectOnRsp r s).ctl.phase = .idle) := by
  rcases detectOnRsp_cases r s with ⟨-, e⟩ | ⟨-, -, e⟩ | ⟨-, -, e⟩ | ⟨-, -, e⟩ <;> rw [e]
  · exact .inl (targetDetected_refImage r s)
  · rcases refDetectedInCheck_cases r s with ⟨-, e'⟩ | ⟨hno, e'⟩
    · exact .inl (by simp [e'])
    · exact .inr ⟨hno, by simp [e', abortedWith]⟩
  · rcases refDetectedInWrite_cases r s with ⟨-, e'⟩ | ⟨hno, e'⟩
    · exact .inl (by simp [e', issueCommand_eq])
    · exact .inr ⟨hno, by simp [e', abortedWith]⟩
  · exact .inl rfl

theorem writeOnRsp_refImage (r : Rsp) (s : State) : (writeOnRsp r s).ctl.refImage = s.ctl.refImage := by
  rcases writeOnRsp_cases r s with ⟨-, e⟩ | ⟨-, e⟩ <;> rw [e]
  · rfl
  · exact attemptDone_refImage _ s

theorem execTick_refImage {s t : State} (h : exec .tick s = .next t) : t.ctl.refImage = s.ctl.refImage := by
  rw [(execTick_writes h).1]

theorem execSample_refImage {rC rW : Bool} {s t : State} (h : exec (.sample rC rW) s = .next t) :
    t.ctl.refImage = s.ctl.refImage := by
  obtain ⟨-, -, hctl, -⟩ := execSample_writes h
  rw [hctl]

/-- RESET drops the image (70 R310). -/
theorem execReset_refImage {dip : BitVec 32} {resOk : Bool} {s t : State} (h : exec (.reset dip resOk) s = .next t) :
    t.ctl.refImage = none := by
  rcases execReset_next h with ⟨-, rfl⟩ | ⟨-, rfl⟩ <;> rfl

/-- An RSP keeps the image, or aborts in DETECT or READ and drops it, or is the OK READ answer that brings it. -/
theorem execRsp_refImage {r : Rsp} {s t : State} (h : exec (.rsp r) s = .next t) :
    t.ctl.refImage = s.ctl.refImage ∨
    ((s.ctl.phase = .detect ∧ ¬ reportsChip r ∨ s.ctl.phase = .read ∧ r.status ≠ .ok) ∧
      t.ctl.refImage = none ∧ t.ctl.gerr = true ∧ t.ctl.phase = .idle) ∨
    (s.ctl.phase = .read ∧ r.status = .ok ∧ t.ctl.phase = .archive ∧ t.ctl.refImage = some (imageOfRsp r s.freeCtr)) := by
  rcases execRsp_next_cases h with ⟨hp, rfl⟩ | ⟨hp, rfl⟩ | ⟨-, rfl⟩ | ⟨-, rfl⟩ | ⟨-, rfl⟩
  · rcases detectOnRsp_refImage r s.quiet with e | ⟨hno, hnone, hgerr, hidle⟩
    · exact .inl e
    · exact .inr (.inl ⟨.inl ⟨hp, hno⟩, hnone, hgerr, hidle⟩)
  · rcases readOnRsp_cases r s.quiet with ⟨hok, e⟩ | ⟨hfail, e⟩ <;> rw [e]
    · exact .inr (.inr ⟨hp, hok, rfl, rfl⟩)
    · exact .inr (.inl ⟨.inr ⟨hp, hfail⟩, rfl, rfl, rfl⟩)
  · exact .inl (writeOnRsp_refImage r _)
  · exact .inl (attemptDone_refImage _ _)
  · exact .inl rfl

end Sys2Proof.Machine

namespace Sys2Proof

open Machine

/-- Settles O60, event by event. -/
theorem imageLifetime : Obligations.ImageLifetime := by
  intro i s t hi h
  rcases isEvent_cases hi with ⟨dip, resOk, rfl⟩ | rfl | rfl | ⟨rC, rW, rfl⟩ | ⟨r, rfl⟩
  · exact .inr (.inl ⟨execReset_refImage h, .inl rfl⟩)
  · rcases execCtl_refImage h with e | ⟨hnone, hstart | hnext⟩
    · exact .inl e
    · exact .inr (.inl ⟨hnone, .inr (.inl ⟨rfl, hstart⟩)⟩)
    · exact .inr (.inl ⟨hnone, .inr (.inr (.inl ⟨rfl, hnext⟩))⟩)
  · exact .inl (execTick_refImage h)
  · exact .inl (execSample_refImage h)
  · rcases execRsp_refImage h with e | ⟨⟨hp, hno⟩ | ⟨hp, hfail⟩, hnone, hgerr, hidle⟩ | ⟨hp, hok, harch, himg⟩
    · exact .inl e
    · exact .inr (.inl ⟨hnone, .inr (.inr (.inr
        ⟨r, rfl, .inl hp, fun hgood => hno ⟨hgood.1, hgood.2 hp⟩, hgerr, hidle⟩))⟩)
    · exact .inr (.inl ⟨hnone, .inr (.inr (.inr ⟨r, rfl, .inr hp, fun hgood => hfail hgood.1, hgerr, hidle⟩))⟩)
    · obtain ⟨hlen, hhash⟩ := imageOfRsp_whole r s.freeCtr
      exact .inr (.inr ⟨hp, harch, r, _, rfl, hok, himg, hlen, hhash, fun bytes hb => imageOfRsp_bytes hb _⟩)

end Sys2Proof
end

section
/-! What the invariant of the Controller says phase by phase (44 R174 to R181), for the proofs that an event keeps it. -/

namespace Sys2Proof

open Machine

/-- Slot 0 has no record yet in this workflow, where `cur` is still 0 (44 R176). -/
def slotZeroFresh (c : CtlRegs) : Prop := c.cur = 0 → nothingKnown (recordAt c 0) = true

/-- The slot worked on is one a WRITE may clone to (46 R226). -/
def curMatches (c : CtlRegs) : Prop := ∀ i : Slot, i.val = c.cur.toNat → (recordAt c i).sizeMatch = .matching

/-- The Controller is on a target slot of a WRITE. -/
def writesTarget (c : CtlRegs) : Bool := decide (c.wf = .write) && isTarget c.cur

/-- What the invariant says in every phase, the lamps aside: the ranges, the records and the error registers. -/
structure StatusInv (c : CtlRegs) : Prop where
  cur_le : c.cur.toNat ≤ 15
  triple : ∀ i : Slot, reachableTriple (recordAt c i) = true
  imageWhole : ∀ img, c.refImage = some img → img.len = img.bytes.length ∧ img.hash = Config.hash img.bytes
  runErr : c.runErr = .ok ↔ c.gerr = false
  runErrCode : c.gerr = true → c.runErr = .noChipDetected ∨ c.runErr = .readFailure

/-- What it says in every phase of a workflow after START, where `act` is `inFlight` and an image is there iff `held`. -/
structure TurnInv (c : CtlRegs) (inFlight held : Bool) : Prop where
  status : StatusInv c
  workflow : c.wf ≠ .none
  act : c.act = inFlight
  image : c.refImage.isSome = held
  gerr : c.gerr = false
  fatalCode : c.fatalCode = .ok
  checkClean : c.wf = .check → ∀ i : Slot, (recordAt c i).lastOpResult = .none
  reference : c.wf = .check → 1 ≤ c.cur.toNat → c.refValid = true

/-- What it says where no operation is under way and no image is held: in BOOT, IDLE and START. -/
structure RestInv (c : CtlRegs) : Prop where
  status : StatusInv c
  act : c.act = false
  image : c.refImage = none
  fatalCode : c.fatalCode = .ok

theorem ctlInv_status {c : CtlRegs} (h : CtlInv c) : StatusInv c :=
  ⟨h.cur_le, h.triple, h.imageWhole, h.runErr, h.runErrCode⟩

theorem curSlot_eq_some {c : CtlRegs} {i : Slot} : curSlot c = some i ↔ i.val = c.cur.toNat := slotOfNat_some

/-- What the invariant says of the slot worked on, where the phase asks for it. -/
def SlotInv (c : CtlRegs) : Prop :=
  (c.phase = .detect → c.wf = .write → c.cur = 0) ∧
  (c.phase = .read ∨ c.phase = .archive → c.wf = .write ∧ c.cur = 0) ∧
  (c.phase = .write ∨ c.phase = .verify → writesTarget c = true) ∧
  (c.phase = .select ∨ c.phase = .settle ∨ c.phase = .detect → slotZeroFresh c) ∧
  (c.phase = .read → matched (recordAt c 0) .none = true) ∧
  (c.phase = .archive → matched (recordAt c 0) .success = true) ∧
  (onWriteTarget c = true → curMatches c) ∧
  (c.phase = .settle ∨ c.phase = .archive ∨ isWait c.phase = true → c.muxAddr.toNat = c.cur.toNat) ∧
  (c.phase = .next → c.wf = .check → c.refValid = true)

section
variable {c : CtlRegs}

/-- In BOOT, IDLE and START the invariant says this. -/
theorem ctlInv_rest_iff (hp : c.phase = .boot ∨ c.phase = .idle ∨ c.phase = .start) :
    CtlInv c ↔ lampsDerived c ∧ RestInv c ∧ (c.wf = .none ↔ c.phase ≠ .start) ∧ (c.phase = .boot → c.gerr = false) := by
  have htarget : onWriteTarget c = false := by rcases hp with hp | hp | hp <;> simp [onWriteTarget, hp]
  have hflight : operationInFlight c = false := by rcases hp with hp | hp | hp <;> simp [operationInFlight, onWriteTarget, hp]
  have hheld : imageHeld c = false := by rcases hp with hp | hp | hp <;> simp [imageHeld, onWriteTarget, hp]
  have hnone : noWorkflowPhase c.phase = true ↔ c.phase ≠ .start := by rcases hp with hp | hp | hp <;> simp [noWorkflowPhase, hp]
  have hfatal : c.phase ≠ .fatal := by rcases hp with hp | hp | hp <;> simp [hp]
  constructor
  · intro h
    have himage := h.image
    have hcode := h.fatalCode
    rw [hheld, Option.isSome_eq_false_iff, Option.isNone_iff_eq_none] at himage
    rw [if_neg hfatal] at hcode
    refine ⟨h.led, ⟨ctlInv_status h, h.act.trans hflight, himage, hcode⟩, h.workflow.trans hnone, fun hb => ?_⟩
    by_contra hg
    rcases h.gerr (by simpa using hg) with hi | hs
    · exact absurd (hb.symm.trans hi) (by decide)
    · exact absurd (hb.symm.trans hs) (by decide)
  · rintro ⟨hled, ⟨⟨hcur, htriple, hwhole, hrun, hrunCode⟩, hact, himage, hcode⟩, hwf, hgerr⟩
    constructor
    case cur_le => exact hcur
    case led => exact hled
    case triple => exact htriple
    case workflow => exact hwf.trans hnone.symm
    case act => exact hact.trans hflight.symm
    case image => rw [himage, hheld]; rfl
    case imageWhole => exact hwhole
    case gerr => exact fun hg => hp.resolve_left fun hb => absurd (hgerr hb) (by simp [hg])
    case runErr => exact hrun
    case runErrCode => exact hrunCode
    case eligible => simp [htarget]
    case checkClean =>
      intro hck hs
      exact absurd (hwf.mpr hs) (by simp [hck])
    case reference =>
      intro hck _ hs
      exact absurd (hwf.mpr hs) (by simp [hck])
    case fatalCode => rw [if_neg hfatal, hcode]
    -- The other fields speak of phases of a slot's turn.
    all_goals rcases hp with hp | hp | hp <;> simp [hp, isWait]

/-- In WRITE and VERIFY the Controller is on a target of a WRITE where `wf` and `cur` say so. -/
theorem onWriteTarget_of_attempt (hp : c.phase = .write ∨ c.phase = .verify) : onWriteTarget c = writesTarget c := by
  rcases hp with hp | hp <;> simp [onWriteTarget, writesTarget, hp]

/-- From SELECT to NEXT the invariant says this. -/
theorem ctlInv_turn_iff (hw : noWorkflowPhase c.phase = false) (hs : c.phase ≠ .start) :
    CtlInv c ↔ lampsDerived c ∧ TurnInv c (operationInFlight c) (imageHeld c) ∧ SlotInv c := by
  obtain ⟨⟨-, hidle⟩, hnf⟩ : (c.phase ≠ .boot ∧ c.phase ≠ .idle) ∧ c.phase ≠ .fatal := by simpa [noWorkflowPhase] using hw
  constructor
  · intro h
    have hwf : c.wf ≠ .none := fun hn => absurd (h.workflow.mp hn) (by simp [hw])
    have hgerr : c.gerr = false := Bool.eq_false_iff.mpr fun hg => (h.gerr hg).elim hidle hs
    have hturn : TurnInv c (operationInFlight c) (imageHeld c) :=
      ⟨ctlInv_status h, hwf, h.act, h.image, hgerr, h.fatalCode.trans (if_neg hnf), fun hc => h.checkClean hc hs,
       fun hc hcur => h.reference hc (.inl hcur) hs⟩
    exact ⟨h.led, hturn, h.detectSlot, h.readSlot, fun hp => (onWriteTarget_of_attempt hp).symm.trans (h.targetSlot hp),
      fun hp hcur => h.fresh hcur hp, h.reading, h.archived, fun ht i hi => h.eligible ht i (curSlot_eq_some.mpr hi), h.address,
      fun hp hc => h.reference hc (.inr hp) hs⟩
  · rintro ⟨hled, ⟨⟨hcur, htriple, hwhole, hrun, hrunCode⟩, hwf, hact, himage, hgerr, hfatal, hclean, href⟩,
      hdetect, hread, htarget, hfresh, hreading, harchived, helig, haddr, hnext⟩
    exact
      { cur_le := hcur, led := hled, triple := htriple, workflow := by simp [hwf, hw], act := hact, image := himage
        imageWhole := hwhole, gerr := by simp [hgerr], runErr := hrun, runErrCode := hrunCode, detectSlot := hdetect
        readSlot := hread, targetSlot := fun hp => (onWriteTarget_of_attempt hp).trans (htarget hp)
        fresh := fun hc hp => hfresh hp hc, reading := hreading, archived := harchived, checkClean := fun hc _ => hclean hc
        eligible := fun ht i hi => helig ht i (curSlot_eq_some.mp hi), address := haddr
        reference := fun hc hor _ => hor.elim (href hc) (fun hp => hnext hp hc), fatalCode := by rw [if_neg hnf, hfatal] }

theorem ctlInv_select_iff (hp : c.phase = .select) :
    CtlInv c ↔ lampsDerived c ∧ TurnInv c false (writesTarget c) ∧ slotZeroFresh c ∧ (writesTarget c = true → curMatches c) := by
  rw [ctlInv_turn_iff (by simp [hp, noWorkflowPhase]) (by simp [hp])]
  simp [SlotInv, hp, operationInFlight, imageHeld, onWriteTarget, isWait, writesTarget]

theorem ctlInv_settle_iff (hp : c.phase = .settle) :
    CtlInv c ↔ lampsDerived c ∧ TurnInv c (writesTarget c) (writesTarget c) ∧ slotZeroFresh c ∧ (writesTarget c = true → curMatches c) ∧
      c.muxAddr.toNat = c.cur.toNat := by
  rw [ctlInv_turn_iff (by simp [hp, noWorkflowPhase]) (by simp [hp])]
  simp [SlotInv, hp, operationInFlight, imageHeld, onWriteTarget, isWait, writesTarget]

theorem ctlInv_detect_iff (hp : c.phase = .detect) :
    CtlInv c ↔ lampsDerived c ∧ TurnInv c false false ∧ (c.wf = .write → c.cur = 0) ∧ slotZeroFresh c ∧ c.muxAddr.toNat = c.cur.toNat := by
  rw [ctlInv_turn_iff (by simp [hp, noWorkflowPhase]) (by simp [hp])]
  simp [SlotInv, hp, operationInFlight, imageHeld, onWriteTarget, isWait, writesTarget]

theorem ctlInv_read_iff (hp : c.phase = .read) :
    CtlInv c ↔ lampsDerived c ∧ TurnInv c true false ∧ (c.wf = .write ∧ c.cur = 0) ∧ matched (recordAt c 0) .none = true ∧
      c.muxAddr.toNat = c.cur.toNat := by
  rw [ctlInv_turn_iff (by simp [hp, noWorkflowPhase]) (by simp [hp])]
  simp [SlotInv, hp, operationInFlight, imageHeld, onWriteTarget, isWait, writesTarget]

theorem ctlInv_archive_iff (hp : c.phase = .archive) :
    CtlInv c ↔ lampsDerived c ∧ TurnInv c false (decide (c.wf = .write)) ∧ (c.wf = .write ∧ c.cur = 0) ∧
      matched (recordAt c 0) .success = true ∧ c.muxAddr.toNat = c.cur.toNat := by
  rw [ctlInv_turn_iff (by simp [hp, noWorkflowPhase]) (by simp [hp])]
  simp [SlotInv, hp, operationInFlight, imageHeld, onWriteTarget, isWait, writesTarget]

/-- WRITE and VERIFY are the two wait phases of a target's attempt. -/
theorem ctlInv_attempt_iff (hp : c.phase = .write ∨ c.phase = .verify) :
    CtlInv c ↔ lampsDerived c ∧ TurnInv c (writesTarget c) (writesTarget c) ∧ writesTarget c = true ∧
      curMatches c ∧ c.muxAddr.toNat = c.cur.toNat := by
  rcases hp with hp | hp <;>
  · rw [ctlInv_turn_iff (by simp [hp, noWorkflowPhase]) (by simp [hp])]
    simp +contextual [SlotInv, hp, operationInFlight, imageHeld, onWriteTarget, isWait, writesTarget]

theorem ctlInv_next_iff (hp : c.phase = .next) :
    CtlInv c ↔ lampsDerived c ∧ TurnInv c false (decide (c.wf = .write)) ∧ (c.wf = .check → c.refValid = true) := by
  rw [ctlInv_turn_iff (by simp [hp, noWorkflowPhase]) (by simp [hp])]
  simp [SlotInv, hp, operationInFlight, imageHeld, onWriteTarget, isWait]

end

end Sys2Proof
end

section
/-! Every event keeps the Controller's invariant (44 R174): the register updates the rules are made of, then phase by phase. -/

namespace Sys2Proof

open Machine

/-! ### Register updates -/

@[simp] theorem reachableTriple_relamp (r : SlotState) (x : LedCtx) : reachableTriple (relamp r x) = reachableTriple r := rfl
@[simp] theorem nothingKnown_relamp (r : SlotState) (x : LedCtx) : nothingKnown (relamp r x) = nothingKnown r := rfl
@[simp] theorem matched_relamp (r : SlotState) (k : OpResult) (x : LedCtx) : matched (relamp r x) k = matched r k := rfl

section
variable {c : CtlRegs} {a b : Bool}

/-- The lamps are no part of the invariant of a turn. -/
theorem TurnInv.rederive (h : TurnInv c a b) : TurnInv (rederive c) a b where
  status :=
    { cur_le := by simpa using h.status.cur_le
      triple := fun i => by simpa using h.status.triple i
      imageWhole := by simpa using h.status.imageWhole
      runErr := by simpa using h.status.runErr
      runErrCode := by simpa using h.status.runErrCode }
  workflow := by simpa using h.workflow
  act := by simpa using h.act
  image := by simpa using h.image
  gerr := by simpa using h.gerr
  fatalCode := by simpa using h.fatalCode
  checkClean := by simpa using h.checkClean
  reference := by simpa using h.reference

theorem slotZeroFresh_rederive (h : slotZeroFresh c) : slotZeroFresh (rederive c) := by
  intro hcur
  rw [rederive_at, nothingKnown_relamp]
  rw [rederive_cur] at hcur
  exact h hcur

theorem curMatches_rederive (h : curMatches c) : curMatches (rederive c) := by
  intro i hi
  rw [rederive_at, relamp_sizeMatch]
  rw [rederive_cur] at hi
  exact h i hi

theorem slotZeroFresh_phase (h : slotZeroFresh c) (p : Phase) : slotZeroFresh { c with phase := p } := h

theorem curMatches_phase (h : curMatches c) (p : Phase) : curMatches { c with phase := p } := h

/-- The registers the invariant of a turn does not speak of. -/
theorem TurnInv.withRegs (h : TurnInv c a b) (p : Phase) (n : BitVec 16) (m : BitVec 4) (z : ChipSize) :
    TurnInv { c with phase := p, settleCtr := n, muxAddr := m, refSize := z } a b :=
  { h with status := { h.status with } }

theorem TurnInv.withAct (h : TurnInv c a b) (a' : Bool) : TurnInv { c with act := a' } a' b :=
  { h with status := { h.status with }, act := rfl }

theorem TurnInv.withRefValid (h : TurnInv c a b) : TurnInv { c with refValid := true } a b :=
  { h with status := { h.status with }, reference := fun _ _ => rfl }

/-- Only the slot in flight is lit for `cur`, so with no operation in flight `cur` may move on. -/
theorem TurnInv.withCur (h : TurnInv c false b) {n : BitVec 5} (hn : n.toNat ≤ 15) (hr : c.wf = .check → c.refValid = true) :
    TurnInv { c with cur := n } false b :=
  { h with status := { h.status with cur_le := hn }, reference := fun hc _ => hr hc }

theorem lampsDerived_withCur (hact : c.act = false) (n : BitVec 5) (h : lampsDerived c) : lampsDerived { c with cur := n } := by
  intro i
  have hctx : ctxOf { c with cur := n } i = ctxOf c i := by simp [ctxOf, hact]
  rw [hctx]
  exact h i

theorem TurnInv.withImage (h : TurnInv c a b) {img : RefImage} (hw : img.len = img.bytes.length ∧ img.hash = Config.hash img.bytes) :
    TurnInv { c with refImage := some img } a true :=
  { h with
    status := { h.status with imageWhole := fun img' he => by cases he; exact hw }
    image := rfl }

/-- A new record of slot `i` that may occur, and brings no result into a CHECK. -/
theorem StatusInv.setRecord (h : StatusInv c) {i : Slot} {r : SlotState} (hr : reachableTriple r = true) :
    StatusInv (setRecord c i r) :=
  { h with
    triple := fun j => by
      rw [setRecord_at]
      split
      · exact hr
      · exact h.triple j }

theorem TurnInv.setRecord (h : TurnInv c a b) {i : Slot} {r : SlotState} (hr : reachableTriple r = true)
    (hk : c.wf = .check → r.lastOpResult = .none) : TurnInv (setRecord c i r) a b :=
  { h with
    status := h.status.setRecord hr
    checkClean := fun hc j => by
      rw [setRecord_at]
      split
      · exact hk hc
      · exact h.checkClean hc j }

theorem TurnInv.setCurRecord (h : TurnInv c a b) {f : SlotState → SlotState}
    (hf : ∀ i : Slot, i.val = c.cur.toNat → reachableTriple (f (recordAt c i)) = true ∧
      (c.wf = .check → (f (recordAt c i)).lastOpResult = .none)) : TurnInv (setCurRecord c f) a b := by
  rcases setCurRecord_cases c f with ⟨i, hi, e⟩ | ⟨-, e⟩ <;> rw [e]
  · obtain ⟨htriple, hresult⟩ := hf i hi
    exact h.setRecord htriple hresult
  · exact h

/-- ABORT with slot 0's record written (44 R182, 60 R277): back in IDLE under the global error display. -/
theorem ctlInv_abortedWith (h : TurnInv c a b) {r0 : SlotState} {code : ErrCode} (hr : reachableTriple r0 = true)
    (hcode : code = .noChipDetected ∨ code = .readFailure) : CtlInv (abortedWith c r0 code) := by
  have hne : code ≠ .ok := by rcases hcode with rfl | rfl <;> decide
  have hset := (h.status.setRecord (i := 0) hr).triple
  have hstatus : StatusInv (abortedWith c r0 code) :=
    { cur_le := by simpa [abortedWith] using h.status.cur_le
      triple := fun i => by rw [abortedWith, abortRegs_at]; exact hset i
      imageWhole := by simp [abortedWith]
      runErr := by simp [abortedWith, hne]
      runErrCode := by simpa [abortedWith] using hcode }
  have hphase : (abortedWith c r0 code).phase = .idle := rfl
  rw [ctlInv_rest_iff (.inr (.inl hphase))]
  refine ⟨lampsDerived_abortRegs _ _, ⟨hstatus, ?_, ?_, ?_⟩, ?_, ?_⟩ <;> simp [abortedWith, h.fatalCode]

/-- The end of a slot's turn (45 R204, 46 R228, R230). -/
theorem ctlInv_slotDone (h : TurnInv c false (decide (c.wf = .write))) (hr : c.wf = .check → c.refValid = true) :
    CtlInv (slotDone c) := by
  rw [ctlInv_next_iff rfl]
  refine ⟨lampsDerived_slotDone c, ?_, by simpa using hr⟩
  rw [slotDone_wf]
  exact h.rederive.withRegs .next _ _ _

/-! ### CTL, phase by phase -/

theorem ctlInv_bootToIdle (h : CtlInv c) (hp : c.phase = .boot) : CtlInv { c with phase := .idle } := by
  obtain ⟨hled, hrest, hwf, -⟩ := (ctlInv_rest_iff (.inl hp)).mp h
  rw [ctlInv_rest_iff (.inr (.inl rfl))]
  exact ⟨hled, { hrest with status := { hrest.status with } }, by simp [hwf, hp], by simp⟩

/-- START leaves a record as it was or clears it, slot 0's always (44 R176). -/
theorem startSlots_cases (c : CtlRegs) (d : CtlRegs) (hd : d.slot = startSlots c) (i : Slot) :
    recordAt d i = clearedRecord (recordAt c i) ∨ (recordAt d i = recordAt c i ∧ c.wf ≠ .check ∧ i ≠ 0) := by
  cases hw : c.wf with
  | check =>
    refine .inl ?_
    simp only [recordAt, hd, startSlots, hw]
    simp
  | write | none =>
    have hset : d.slot = (setRecord c 0 (clearedRecord (recordAt c 0))).slot := by rw [hd, startSlots, hw]; rfl
    rw [recordAt_congr hset, setRecord_at]
    split
    · next h0 => exact .inl (by rw [h0])
    · next h0 => exact .inr ⟨rfl, by simp, Ne.symm h0⟩

/-- The registers START assigns before it derives the lamps (44 R176). -/
def startRegs (c : CtlRegs) : CtlRegs :=
  { c with gerr := false, runErr := .ok, act := false, refImage := none, refValid := false, cur := 0, slot := startSlots c }

theorem startOnCtl_eq (s : State) : startOnCtl s = s.withCtl { rederive (startRegs s.ctl) with phase := .select } := rfl

theorem turnInv_startRegs (h : RestInv c) (hw : c.wf ≠ .none) : TurnInv (startRegs c) false false where
  status :=
    { cur_le := by simp [startRegs]
      triple := fun i => by
        rcases startSlots_cases c (startRegs c) rfl i with e | ⟨e, -, -⟩ <;> rw [e]
        · rfl
        · exact h.status.triple i
      imageWhole := fun img he => by simp [startRegs] at he
      runErr := by simp [startRegs]
      runErrCode := by simp [startRegs] }
  workflow := hw
  act := rfl
  image := rfl
  gerr := rfl
  fatalCode := h.fatalCode
  checkClean hc i := by
    rcases startSlots_cases c (startRegs c) rfl i with e | ⟨-, hne, -⟩
    · rw [e]; rfl
    · exact absurd hc hne
  reference := by simp [startRegs]

theorem slotZeroFresh_startRegs (c : CtlRegs) : slotZeroFresh (startRegs c) := fun _ => by
  rcases startSlots_cases c (startRegs c) rfl 0 with e | ⟨-, -, hne⟩
  · rw [e]; rfl
  · exact absurd rfl hne

theorem ctlInv_startOnCtl {s : State} (h : CtlInv s.ctl) (hp : s.ctl.phase = .start) : CtlInv (startOnCtl s).ctl := by
  obtain ⟨-, hrest, hwf, -⟩ := (ctlInv_rest_iff (.inr (.inr hp))).mp h
  have hturn := turnInv_startRegs hrest (by simpa [hp] using hwf)
  have htarget : writesTarget { rederive (startRegs s.ctl) with phase := .select } = false := by
    simp [writesTarget, isTarget, startRegs]
  rw [startOnCtl_eq, State.withCtl_ctl, ctlInv_select_iff rfl, htarget]
  exact ⟨lampsDerived_phase _ _ (lampsDerived_rederive _), hturn.rederive.withRegs .select _ _ _,
    slotZeroFresh_phase (slotZeroFresh_rederive (slotZeroFresh_startRegs _)) _, fun ht => absurd ht Bool.false_ne_true⟩

theorem ctlInv_selectedRegs (h : CtlInv c) (hp : c.phase = .select) (n : BitVec 16) :
    CtlInv (selectedRegs { c with muxAddr := BitVec.ofNat 4 c.cur.toNat } n) := by
  obtain ⟨hled, hturn, hfresh, hmatch⟩ := (ctlInv_select_iff hp).mp h
  have hmux : (BitVec.ofNat 4 c.cur.toNat).toNat = c.cur.toNat := by
    have := hturn.status.cur_le
    simp only [BitVec.toNat_ofNat]
    omega
  rcases selectedRegs_cases { c with muxAddr := BitVec.ofNat 4 c.cur.toNat } n with ⟨⟨hw, ht⟩, e⟩ | ⟨hn, e⟩ <;>
    rw [e, ctlInv_settle_iff rfl]
  · have htarget : writesTarget c = true := by simpa [writesTarget] using ⟨hw, ht⟩
    rw [htarget] at hturn
    have hact := (hturn.withRegs c.phase n (BitVec.ofNat 4 c.cur.toNat) c.refSize).withAct true
    have hd : writesTarget { rederive { c with muxAddr := BitVec.ofNat 4 c.cur.toNat, settleCtr := n, act := true } with
        phase := .settle } = true := by simpa [writesTarget] using ⟨hw, ht⟩
    have hfresh' : slotZeroFresh { c with muxAddr := BitVec.ofNat 4 c.cur.toNat, settleCtr := n, act := true } := hfresh
    have hmatch' : curMatches { c with muxAddr := BitVec.ofNat 4 c.cur.toNat, settleCtr := n, act := true } := hmatch htarget
    rw [hd]
    refine ⟨lampsDerived_phase _ _ (lampsDerived_rederive _), hact.rederive.withRegs .settle _ _ _,
      slotZeroFresh_phase (slotZeroFresh_rederive hfresh') _,
      fun _ => curMatches_phase (curMatches_rederive hmatch') _, by simpa using hmux⟩
  · have htarget : writesTarget c = false := by
      rw [← Bool.not_eq_true]
      simpa [writesTarget] using hn
    rw [htarget] at hturn
    have hd : writesTarget { c with muxAddr := BitVec.ofNat 4 c.cur.toNat, settleCtr := n, phase := .settle } = false := htarget
    rw [hd]
    exact ⟨lampsDerived_congr (c := c) rfl rfl rfl rfl hled, hturn.withRegs .settle n _ _, hfresh,
      fun ht => absurd ht Bool.false_ne_true, hmux⟩

/-- SETTLE counts down, or issues the command the slot and the workflow ask for (44 R179). -/
theorem settleOnCtl_issues (s : State) :
    (settleOnCtl s).ctl = { s.ctl with settleCtr := s.ctl.settleCtr - 1 } ∨
    ((s.ctl.cur = 0 ∨ s.ctl.wf = .check) ∧ (settleOnCtl s).ctl = { s.ctl with phase := .detect }) ∨
    (s.ctl.cur ≠ 0 ∧ s.ctl.wf ≠ .check ∧ (settleOnCtl s).ctl = { s.ctl with phase := .write }) := by
  unfold settleOnCtl
  split
  · exact .inl rfl
  · split
    · next h => exact .inr (.inl ⟨h, rfl⟩)
    · next h => exact .inr (.inr ⟨fun hc => h (.inl hc), fun hw => h (.inr hw), rfl⟩)

theorem ctlInv_settleOnCtl {s : State} (h : CtlInv s.ctl) (hp : s.ctl.phase = .settle) : CtlInv (settleOnCtl s).ctl := by
  obtain ⟨hled, hturn, hfresh, hmatch, haddr⟩ := (ctlInv_settle_iff hp).mp h
  rcases settleOnCtl_issues s with e | ⟨hdet, e⟩ | ⟨hcur, hck, e⟩ <;> rw [e]
  · have hp' : ({ s.ctl with settleCtr := s.ctl.settleCtr - 1 } : CtlRegs).phase = .settle := hp
    rw [ctlInv_settle_iff hp']
    exact ⟨hled, hturn.withRegs _ _ _ _, hfresh, hmatch, haddr⟩
  · have htarget : writesTarget s.ctl = false := by
      rcases hdet with hcur | hck
      · simp [writesTarget, hcur, isTarget]
      · simp [writesTarget, hck]
    rw [htarget] at hturn
    rw [ctlInv_detect_iff rfl]
    refine ⟨hled, hturn.withRegs .detect _ _ _, fun hw => ?_, hfresh, haddr⟩
    exact hdet.resolve_right (by rw [hw]; decide)
  · have hw : s.ctl.wf = .write := by
      have := hturn.workflow
      cases hwf : s.ctl.wf <;> simp_all
    have ht : isTarget s.ctl.cur = true := by
      rw [← Bool.not_eq_false]
      exact fun hf => hcur (isTarget_eq_false_iff.mp hf)
    have htarget : writesTarget s.ctl = true := by simp [writesTarget, hw, ht]
    rw [ctlInv_attempt_iff (.inl rfl)]
    exact ⟨hled, hturn.withRegs .write _ _ _, htarget, hmatch htarget, haddr⟩

theorem ctlInv_archiveOnCtl (h : CtlInv c) (hp : c.phase = .archive) : CtlInv { c with phase := .next } := by
  obtain ⟨hled, hturn, ⟨hw, -⟩, -, -⟩ := (ctlInv_archive_iff hp).mp h
  rw [ctlInv_next_iff rfl]
  exact ⟨hled, hturn.withRegs .next _ _ _, fun hck => absurd (hw.symm.trans hck) (by decide)⟩

/-- NEXT moves to a slot it selects, in a WRITE an eligible one only, or passes over one (44 R181). -/
theorem nextOnCtl_moves (s : State) (hcur : s.ctl.cur.toNat ≠ 15) :
    ((nextOnCtl s).ctl = { s.ctl with cur := curOfNat (s.ctl.cur.toNat + 1), phase := .select } ∧
      (s.ctl.wf = .check ∨ slotMatches s.ctl (s.ctl.cur.toNat + 1) = true)) ∨
    (nextOnCtl s).ctl = { s.ctl with cur := curOfNat (s.ctl.cur.toNat + 1), phase := .next } := by
  have hn : s.ctl.cur.toNat + 1 ≠ 16 := by omega
  simp only [nextOnCtl, if_neg hn]
  split
  · next h => exact .inl ⟨rfl, h⟩
  · exact .inr rfl

theorem ctlInv_endWorkflow (hled : lampsDerived c) {b : Bool} (h : TurnInv c false b) : CtlInv (endWorkflow c) := by
  rw [ctlInv_rest_iff (.inr (.inl rfl))]
  have hstatus : StatusInv (endWorkflow c) := { h.status with imageWhole := fun img he => absurd he (by simp) }
  exact ⟨hled, ⟨hstatus, h.act, rfl, h.fatalCode⟩, by simp, by simp⟩

theorem ctlInv_nextOnCtl {s : State} (h : CtlInv s.ctl) (hp : s.ctl.phase = .next) : CtlInv (nextOnCtl s).ctl := by
  obtain ⟨hled, hturn, href⟩ := (ctlInv_next_iff hp).mp h
  have hle := hturn.status.cur_le
  rcases nextOnCtl_cases s with ⟨-, e⟩ | ⟨hne, -⟩
  · rw [e]
    exact ctlInv_endWorkflow hled hturn
  have hn : (curOfNat (s.ctl.cur.toNat + 1)).toNat = s.ctl.cur.toNat + 1 := curOfNat_toNat (by omega)
  have hturn' := hturn.withCur (n := curOfNat (s.ctl.cur.toNat + 1)) (by omega) href
  have hled' := lampsDerived_withCur hturn.act (curOfNat (s.ctl.cur.toNat + 1)) hled
  rcases nextOnCtl_moves s hne with ⟨e, hmatch⟩ | e <;> rw [e]
  · have htarget : isTarget (curOfNat (s.ctl.cur.toNat + 1)) = true := by rw [isTarget_iff]; omega
    have hd : writesTarget { s.ctl with cur := curOfNat (s.ctl.cur.toNat + 1), phase := .select } = decide (s.ctl.wf = .write) := by
      simp [writesTarget, htarget]
    rw [ctlInv_select_iff rfl, hd]
    refine ⟨hled', hturn'.withRegs .select _ _ _, fun h0 => ?fresh, fun hw i hi => ?eligible⟩
    case fresh =>
      have h0' : curOfNat (s.ctl.cur.toNat + 1) = 0 := h0
      rw [h0'] at hn
      simp at hn
    case eligible =>
      have hck : s.ctl.wf ≠ .check := by rw [of_decide_eq_true hw]; decide
      have hslot := hmatch.resolve_left hck
      rw [slotMatches_of_slot s.ctl (hi.trans hn)] at hslot
      exact of_decide_eq_true hslot
  · rw [ctlInv_next_iff rfl]
    exact ⟨hled', hturn'.withRegs .next _ _ _, href⟩

/-! ### RSP, phase by phase -/

/-- A matching chip is there, and every result may be recorded on it. -/
theorem reachableTriple_withResult {r : SlotState} (h : reachableTriple r = true) (hm : r.sizeMatch = .matching) (k : OpResult) :
    reachableTriple { r with lastOpResult := k } = true := by
  obtain ⟨p, m, r, l⟩ := r
  subst hm
  cases p <;> simp_all [reachableTriple]

theorem reachableTriple_detected {r : SlotState} (hk : r.lastOpResult = .none) (a : Rsp) (z : ChipSize) :
    reachableTriple { r with presence := (detectedStatus a z).1, sizeMatch := (detectedStatus a z).2 } = true := by
  rcases detectedStatus_cases a z with e | e | e <;> simp [e, reachableTriple, hk]

theorem nothingKnown_iff {r : SlotState} : nothingKnown r = true ↔ statusIs r .absent .unknown .none := by
  simp [nothingKnown, statusIs, and_assoc]

theorem matched_iff {r : SlotState} {k : OpResult} : matched r k = true ↔ statusIs r .present .matching k := by
  simp [matched, statusIs, and_assoc]

/-- The end of a target's attempt (46 R228, R230). -/
theorem ctlInv_attemptDone {s : State} (k : OpResult) (h : CtlInv s.ctl) (hp : s.ctl.phase = .write ∨ s.ctl.phase = .verify) :
    CtlInv (attemptDone k s).ctl := by
  obtain ⟨-, hturn, htarget, hmatch, -⟩ := (ctlInv_attempt_iff hp).mp h
  have hw : s.ctl.wf = .write := by simp_all [writesTarget]
  have hnck : s.ctl.wf ≠ .check := by rw [hw]; decide
  have hset := hturn.setCurRecord (f := fun ri => { ri with lastOpResult := k }) fun i hi =>
    ⟨reachableTriple_withResult (hturn.status.triple i) (hmatch i hi) k, fun hck => absurd hck hnck⟩
  have hwf : (setCurRecord s.ctl fun ri => { ri with lastOpResult := k }).wf = .write := by rw [setCurRecord_eq, hw]
  rw [attemptDone_eq, State.withCtl_ctl]
  refine ctlInv_slotDone ?_ fun hck => absurd (hwf.symm.trans hck) (by decide)
  rw [htarget] at hset
  simpa only [hwf, decide_true] using hset.withAct false

theorem ctlInv_writeOnRsp {s : State} (r : Rsp) (h : CtlInv s.ctl) (hp : s.ctl.phase = .write) : CtlInv (writeOnRsp r s).ctl := by
  rcases writeOnRsp_cases r s with ⟨-, e⟩ | ⟨-, e⟩ <;> rw [e]
  · obtain ⟨hled, hturn, htarget, hmatch, haddr⟩ := (ctlInv_attempt_iff (.inl hp)).mp h
    change CtlInv { s.ctl with phase := .verify }
    rw [ctlInv_attempt_iff (.inr rfl)]
    exact ⟨hled, hturn.withRegs .verify _ _ _, htarget, hmatch, haddr⟩
  · exact ctlInv_attemptDone _ h (.inl hp)

theorem ctlInv_readOnRsp {s : State} (r : Rsp) (h : CtlInv s.ctl) (hp : s.ctl.phase = .read) : CtlInv (readOnRsp r s).ctl := by
  obtain ⟨-, hturn, ⟨hw, hcur⟩, hmatched, haddr⟩ := (ctlInv_read_iff hp).mp h
  obtain ⟨hpres, hmatch, -⟩ := matched_iff.mp hmatched
  have hresult := reachableTriple_withResult (hturn.status.triple 0) hmatch
  have hnck : s.ctl.wf ≠ .check := by rw [hw]; decide
  rcases readOnRsp_cases r s with ⟨-, e⟩ | ⟨-, e⟩ <;> rw [e]
  · have hset := hturn.setRecord (i := 0) (hresult .success) fun hck => absurd hck hnck
    have himg := (hset.withImage (imageOfRsp_whole r s.freeCtr)).withAct false
    change CtlInv (imageTaken r s)
    rw [imageTaken, ctlInv_archive_iff rfl]
    refine ⟨lampsDerived_phase _ _ (lampsDerived_rederive _), ?_, by simp [hw, hcur], ?_, by simpa using haddr⟩
    · simpa [hw] using himg.rederive.withRegs .archive _ _ _
    · rw [recordAt_mk, rederive_at, matched_relamp, recordAt_mk, setRecord_at_self]
      exact matched_iff.mpr ⟨hpres, hmatch, rfl⟩
  · exact ctlInv_abortedWith hturn (hresult .readFailed) (.inr rfl)

/-- Slot 0 with no chip found: nothing is known of it still. -/
theorem reachableTriple_noChip {r : SlotState} (h : nothingKnown r = true) : reachableTriple { r with presence := .absent } = true := by
  obtain ⟨-, hm, hk⟩ := nothingKnown_iff.mp h
  simp [reachableTriple, hm, hk]

theorem ctlInv_targetDetected {s : State} (r : Rsp) (hturn : TurnInv s.ctl false false) (hck : s.ctl.wf = .check)
    (hcur : 1 ≤ s.ctl.cur.toNat) : CtlInv (targetDetected r s).ctl := by
  have hset := hturn.setCurRecord
    (f := fun ri => { ri with
      presence := (detectedStatus r s.ctl.refSize).1, sizeMatch := (detectedStatus r s.ctl.refSize).2 })
    fun i _ => ⟨reachableTriple_detected (hturn.checkClean hck i) _ _, fun _ => hturn.checkClean hck i⟩
  rw [targetDetected_eq, State.withCtl_ctl]
  refine ctlInv_slotDone ?_ ?_ <;> rw [setCurRecord_eq]
  · rw [setCurRecord_eq] at hset
    simpa only [hck, reduceCtorEq, decide_false] using hset
  · exact fun _ => hturn.reference hck hcur

theorem ctlInv_refDetectedInCheck {s : State} (r : Rsp) (hturn : TurnInv s.ctl false false) (hck : s.ctl.wf = .check)
    (hfresh : nothingKnown (recordAt s.ctl 0) = true) : CtlInv (refDetectedInCheck r s).ctl := by
  obtain ⟨-, -, hk⟩ := nothingKnown_iff.mp hfresh
  rcases refDetectedInCheck_cases r s with ⟨-, e⟩ | ⟨-, e⟩ <;> rw [e, State.withCtl_ctl]
  · have hset := hturn.setRecord (i := 0) (r := { recordAt s.ctl 0 with presence := .present, sizeMatch := .matching }) rfl
      fun _ => hk
    refine ctlInv_slotDone ?_ fun _ => rfl
    simpa only [setRecord_wf, hck, reduceCtorEq, decide_false] using (hset.withRegs _ _ _ r.size).withRefValid
  · exact ctlInv_abortedWith hturn (reachableTriple_noChip hfresh) (.inl rfl)

theorem ctlInv_refDetectedInWrite {s : State} (r : Rsp) (hturn : TurnInv s.ctl false false) (hw : s.ctl.wf = .write)
    (hcur : s.ctl.cur = 0) (haddr : s.ctl.muxAddr.toNat = s.ctl.cur.toNat) (hfresh : nothingKnown (recordAt s.ctl 0) = true) :
    CtlInv (refDetectedInWrite r s).ctl := by
  obtain ⟨-, -, hk⟩ := nothingKnown_iff.mp hfresh
  rcases refDetectedInWrite_cases r s with ⟨-, e⟩ | ⟨-, e⟩ <;> rw [e]
  · have hset := hturn.setRecord (i := 0) (r := { recordAt s.ctl 0 with presence := .present, sizeMatch := .matching }) rfl
      fun _ => hk
    have hread := ((hset.withRegs s.ctl.phase s.ctl.settleCtr s.ctl.muxAddr r.size).withRefValid).withAct true
    rw [issueCommand_eq]
    refine (ctlInv_read_iff rfl).mpr ⟨lampsDerived_phase _ _ (lampsDerived_rederive _), hread.rederive.withRegs .read _ _ _,
      by simp [hw, hcur], ?_, by simpa using haddr⟩
    rw [recordAt_mk, State.withCtl_ctl, rederive_at, matched_relamp, recordAt_mk, setRecord_at_self]
    exact matched_iff.mpr ⟨rfl, rfl, hk⟩
  · exact ctlInv_abortedWith hturn (reachableTriple_noChip hfresh) (.inl rfl)

theorem ctlInv_detectOnRsp {s : State} (r : Rsp) (h : CtlInv s.ctl) (hp : s.ctl.phase = .detect) : CtlInv (detectOnRsp r s).ctl := by
  obtain ⟨-, hturn, hslot, hfresh, haddr⟩ := (ctlInv_detect_iff hp).mp h
  rcases detectOnRsp_cases r s with ⟨hcur, e⟩ | ⟨hcur, hck, e⟩ | ⟨hcur, hw, e⟩ | ⟨-, -, e⟩ <;> rw [e]
  · have hck : s.ctl.wf = .check := by
      have hwf := hturn.workflow
      cases hw : s.ctl.wf with
      | none => exact absurd hw hwf
      | check => rfl
      | write => simp [hslot hw] at hcur
    exact ctlInv_targetDetected r hturn hck hcur
  · exact ctlInv_refDetectedInCheck r hturn hck (hfresh hcur)
  · exact ctlInv_refDetectedInWrite r hturn hw hcur haddr (hfresh hcur)
  · exact h

end
end Sys2Proof
end

section
/-! Every event, and with it every step and every run from RESET, keeps the engine's invariant (10_state R26, 44 R174). -/

namespace Sys2Proof

open Machine

/-! ### The Controller's events -/

theorem ctlInv_execCtl {s t : State} (h : CtlInv s.ctl) (ht : exec .ctl s = .next t) : CtlInv t.ctl := by
  rcases execCtl_next_cases ht with ⟨hp, rfl⟩ | ⟨hp, rfl⟩ | ⟨hp, hk⟩ | ⟨hp, rfl⟩ | ⟨hp, rfl⟩ | ⟨hp, rfl⟩ | ⟨-, rfl⟩
  · unfold bootOnCtl
    split
    · exact ctlInv_bootToIdle h hp
    · exact h
  · exact ctlInv_startOnCtl (s := s.quiet) h hp
  · rcases selectOnCtl_next hk with ⟨hcur, -⟩ | ⟨-, rfl⟩
    · exact absurd h.cur_le (Nat.not_le.mpr hcur)
    · exact ctlInv_selectedRegs h hp _
  · exact ctlInv_settleOnCtl (s := s.quiet) h hp
  · exact ctlInv_archiveOnCtl h hp
  · exact ctlInv_nextOnCtl (s := s.quiet) h hp
  · exact h

theorem ctlInv_execRsp {r : Rsp} {s t : State} (h : CtlInv s.ctl) (ht : exec (.rsp r) s = .next t) : CtlInv t.ctl := by
  rcases execRsp_next_cases ht with ⟨hp, rfl⟩ | ⟨hp, rfl⟩ | ⟨hp, rfl⟩ | ⟨hp, rfl⟩ | ⟨-, rfl⟩
  · exact ctlInv_detectOnRsp (s := s.quiet) r h hp
  · exact ctlInv_readOnRsp (s := s.quiet) r h hp
  · exact ctlInv_writeOnRsp (s := s.quiet) r h hp
  · exact ctlInv_attemptDone (s := s.quiet) _ h (.inr hp)
  · exact h

/-- A phase other than BOOT and FATAL is entered after the animation only (70 R313): BOOT is left by a CTL that finds it over. -/
theorem bootDone_of_execCtl {s t : State} (hb : s.ctl.phase ≠ .boot → s.ctl.phase ≠ .fatal → s.sched.bootDone = true)
    (ht : exec .ctl s = .next t) (hp : t.ctl.phase ≠ .boot) (hf : t.ctl.phase ≠ .fatal) : s.sched.bootDone = true := by
  by_cases hs : s.ctl.phase = .boot
  · rw [execCtl_boot hs] at ht
    cases ht
    by_contra hd
    have hd' : s.quiet.sched.bootDone = false := by simpa using hd
    rw [bootOnCtl, hd'] at hp
    exact hp hs
  · by_cases hs' : s.ctl.phase = .fatal
    · rw [exec, execCtl, whileRunning_of_fatal hs'] at ht
      cases ht
      exact absurd hs' hf
    · exact hb hs hs'

/-- An RSP does nothing in BOOT and FATAL. -/
theorem bootDone_of_execRsp {r : Rsp} {s t : State} (hb : s.ctl.phase ≠ .boot → s.ctl.phase ≠ .fatal → s.sched.bootDone = true)
    (ht : exec (.rsp r) s = .next t) (hp : t.ctl.phase ≠ .boot) (hf : t.ctl.phase ≠ .fatal) : s.sched.bootDone = true := by
  rcases execRsp_next_cases ht with ⟨hs, -⟩ | ⟨hs, -⟩ | ⟨hs, -⟩ | ⟨hs, -⟩ | ⟨-, rfl⟩
  case inr.inr.inr.inr => exact hb hp hf
  all_goals exact hb (by rw [hs]; decide) (by rw [hs]; decide)

theorem engineInv_of_controllerFrame {s t : State} (h : EngineInv s) (hf : ControllerFrame s.quiet t) (hc : CtlInv t.ctl)
    (hb : t.ctl.phase ≠ .boot → t.ctl.phase ≠ .fatal → s.sched.bootDone = true) : EngineInv t where
  ctl := hc
  sched := by rw [hf.sched]; exact h.sched
  check := by rw [hf.samp]; exact h.check
  write := by rw [hf.samp]; exact h.write
  boot := by rw [hf.sched]; exact hb
  settle := by rw [hf.tSettle]; exact h.settle

/-! ### TICK -/

theorem schedInv_lampTick {s : State} (h : SchedInv s.sched) (hb : s.sched.bootDone = true) : SchedInv (lampTick s).sched := by
  have hlamp : ∀ i : Slot, lampAt (lampTick s).sched i = blink (recordAt s.ctl i).ledMode (lampAt s.sched i) := fun i => by
    rw [lampTick_eq]
    simp [lampAt, tickedLamps]
  have hshown : ∀ i : Slot, (lampTick s).sched.ledVisible[i] = (lampAt (lampTick s).sched i).lvl := fun i => by
    rw [lampTick_eq]
    exact lampPattern_get _ i
  have hdone : (lampTick s).sched.bootDone = true := by rw [lampTick_eq]; exact hb
  have hctr : (lampTick s).sched.bootCtr = s.sched.bootCtr := by rw [lampTick_eq]
  constructor
  case cnt_le =>
    intro i
    rw [hlamp]
    exact Nat.le_pred_of_lt (blink_cnt_lt _ _)
  case bootCtr_le => rw [hctr]; exact h.bootCtr_le
  case booting => simp [hdone]
  case booted => rw [hctr]; exact fun _ => h.booted hb
  case visible => exact fun _ => hshown

theorem schedInv_bootTick {s : State} (h : SchedInv s.sched) (hb : s.sched.bootDone = false) : SchedInv (bootTick s).sched := by
  rcases bootTick_cases s with ⟨hlt, e⟩ | ⟨hle, e⟩ <;> rw [e]
  · have hctr : (s.sched.bootCtr + 1).toNat = s.sched.bootCtr.toNat + 1 := by
      have h1 : (1 : BitVec 5).toNat = 1 := rfl
      simp only [Config.bootLen] at hlt
      rw [BitVec.toNat_add, h1]
      omega
    constructor
    case cnt_le => exact h.cnt_le
    case bootCtr_le => rw [hctr]; exact hlt
    case booting => exact fun _ => h.booting hb
    case booted => simp [hb]
    case visible => simp [hb]
  · constructor
    case cnt_le => exact h.cnt_le
    case bootCtr_le => exact h.bootCtr_le
    case booting => simp
    case booted => exact fun _ => Nat.le_antisymm h.bootCtr_le hle
    case visible => simp [h.booting hb]

theorem engineInv_execTick {s t : State} (h : EngineInv s) (ht : exec .tick s = .next t) : EngineInv t := by
  rcases execTick_next ht with ⟨-, rfl⟩ | ⟨hp, hb, rfl⟩ | ⟨hp, hb, rfl⟩
  · exact { h with }
  · have hsched := schedInv_lampTick (s := s.quiet) h.sched hb
    rw [lampTick_eq] at hsched ⊢
    exact ⟨h.ctl, hsched, h.check, h.write, fun _ _ => hb, h.settle⟩
  · have hsched := schedInv_bootTick (s := s.quiet) h.sched hb
    have hboot : s.ctl.phase = .boot := by
      by_contra hne
      simp [h.boot hne hp] at hb
    rcases bootTick_cases s.quiet with ⟨-, e⟩ | ⟨-, e⟩ <;> rw [e] at hsched ⊢ <;>
      exact ⟨h.ctl, hsched, h.check, h.write, fun hne _ => absurd hboot hne, h.settle⟩

/-! ### SAMPLE -/

/-- Whatever the debouncer held, a sample leaves its count in the range of its state (43 R152 to R155, R161). -/
theorem debouncerOk_debounce (d : Debouncer) (r : Bool) : debouncerOk (debounce d r).deb = true := by
  have hcount : ∀ n : BitVec 4, ¬ n.toNat + 1 ≥ Config.debounceSamples →
      1 ≤ (n + 1).toNat ∧ (n + 1).toNat ≤ Config.debounceSamples - 1 := by decide
  unfold debounce
  cases d.dbState
  · cases r <;> rfl
  · simp only [debouncePend]
    split_ifs with hr hn
    · rfl
    · exact decide_eq_true (hcount d.dbCnt hn)
    · rfl
  · cases r <;> rfl
  · simp only [debounceRel]
    split_ifs with hr hn
    · rfl
    · rfl
    · exact decide_eq_true (hcount d.dbCnt hn)

/-- The hand-off starts a workflow from IDLE (43 R158). -/
theorem ctlInv_handoff {s : State} (h : CtlInv s.ctl) (eC eW : Bool) : CtlInv (handoff s eC eW).ctl := by
  have hstart : ∀ w : Workflow, w ≠ .none → s.ctl.phase = .idle → CtlInv { s.ctl with wf := w, phase := .start } := by
    intro w hw hp
    obtain ⟨hled, hrest, -, -⟩ := (ctlInv_rest_iff (.inr (.inl hp))).mp h
    rw [ctlInv_rest_iff (.inr (.inr rfl))]
    exact ⟨hled, { hrest with status := { hrest.status with } }, by simp [hw], by simp⟩
  rcases handoff_cases s eC eW with ⟨hp, -, e⟩ | ⟨hp, -, -, e⟩ | ⟨-, e⟩ <;> rw [e]
  · exact hstart .check (by decide) hp
  · exact hstart .write (by decide) hp
  · exact h

theorem engineInv_execSample {rC rW : Bool} {s t : State} (h : EngineInv s) (ht : exec (.sample rC rW) s = .next t) :
    EngineInv t := by
  rcases execSample_next ht with ⟨-, rfl⟩ | ⟨hf, rfl⟩
  · exact { h with }
  · rw [sampleButtons_eq]
    have hctl := ctlInv_handoff (s := sampled rC rW s.quiet) h.ctl (debounce s.quiet.samp.check rC).e
      (debounce s.quiet.samp.write rW).e
    have hboot : (handoff (sampled rC rW s.quiet) (debounce s.quiet.samp.check rC).e (debounce s.quiet.samp.write rW).e).ctl.phase
        ≠ .boot → s.sched.bootDone = true := by
      rcases handoff_idle_or_eq (sampled rC rW s.quiet) (debounce s.quiet.samp.check rC).e (debounce s.quiet.samp.write rW).e with
        hi | e
      · have hi' : s.ctl.phase = .idle := hi
        exact fun _ => h.boot (by rw [hi']; decide) hf
      · rw [e]
        exact fun hb => h.boot hb hf
    rw [handoff_eq] at hctl hboot ⊢
    exact
      { ctl := hctl, sched := h.sched, check := debouncerOk_debounce _ _, write := debouncerOk_debounce _ _
        boot := fun hb _ => hboot hb, settle := h.settle }

/-! ### RESET -/

theorem schedInv_reset : SchedInv SchedRegs.reset where
  cnt_le := by decide
  bootCtr_le := by decide
  booting := by decide
  booted := by decide
  visible := by decide

theorem ctlInv_reset : CtlInv CtlRegs.reset := by
  constructor
  case imageWhole => exact fun img he => absurd he (by simp [CtlRegs.reset])
  all_goals decide

/-- FATAL with the one code that RESET gives (70 R311). -/
theorem ctlInv_resetFatal : CtlInv (fatalRegs CtlRegs.reset .resourceBusy) := by
  constructor
  case imageWhole => exact fun img he => absurd he (by simp [CtlRegs.reset])
  all_goals decide

theorem engineInv_execReset {dip : BitVec 32} {resOk : Bool} {s t : State} (hn : 1 ≤ s.tSettle.toNat)
    (ht : exec (.reset dip resOk) s = .next t) : EngineInv t := by
  rcases execReset_next ht with ⟨-, rfl⟩ | ⟨-, rfl⟩
  · exact ⟨ctlInv_reset, schedInv_reset, rfl, rfl, fun hb => absurd rfl hb, hn⟩
  · exact ⟨ctlInv_resetFatal, schedInv_reset, rfl, rfl, fun _ hf => absurd rfl hf, hn⟩

/-! ### Events, steps and runs -/

/-- Every event of 00_scope R9 keeps the engine's invariant. -/
theorem engineInv_exec {i : Instr} {s t : State} (hi : i.isEvent = true) (h : EngineInv s) (ht : exec i s = .next t) : EngineInv t := by
  rcases isEvent_cases hi with ⟨dip, resOk, rfl⟩ | rfl | rfl | ⟨rC, rW, rfl⟩ | ⟨r, rfl⟩
  · exact engineInv_execReset h.settle ht
  · exact engineInv_of_controllerFrame h (controllerFrame_execCtl ht) (ctlInv_execCtl h.ctl ht) (bootDone_of_execCtl h.boot ht)
  · exact engineInv_execTick h ht
  · exact engineInv_execSample h ht
  · exact engineInv_of_controllerFrame h (controllerFrame_execRsp ht) (ctlInv_execRsp h.ctl ht) (bootDone_of_execRsp h.boot ht)

theorem decodePlain_eq_ok {b : Bool} {image : Option (List Byte)} {i j : Instr} (h : decodePlain b image i = .ok j) : j = i := by
  unfold decodePlain at h
  split_ifs at h
  cases h
  rfl

/-- A stimulus word is an event (30_encoding R98). -/
theorem isEvent_of_decodeWord {w : StimWord} {image : Option (List Byte)} {i : Instr} (h : decodeWord w image = .ok i) :
    i.isEvent = true := by
  unfold decodeWord at h
  split at h
  · rw [decodePlain_eq_ok h]; rfl
  · rw [decodePlain_eq_ok h]; rfl
  · rw [decodePlain_eq_ok h]; rfl
  · cases h; rfl
  · rw [decodePlain_eq_ok h]; rfl
  · cases h

/-- What a script may hold is an event or an access to the status port (30_encoding R97, 47 R264). -/
theorem decode_scriptStimulus {u : Stimulus} {i : Instr} (hu : scriptStimulus u = true) (h : decode u = .ok i) :
    i.isEvent = true ∨ ∃ k, i = .stat k := by
  have hport : u.port = .stimulus ∨ u.port = .stIdx := by simpa [scriptStimulus] using hu
  rcases hport with hport | hport <;> simp only [decode, hport] at h <;> split_ifs at h
  · exact .inl (isEvent_of_decodeWord h)
  · exact .inr ⟨_, decodePlain_eq_ok h⟩

theorem scriptStimulus_fetch {s : State} (h : ∀ u ∈ s.stim, scriptStimulus u = true) : scriptStimulus (fetch s) = true := by
  cases hs : s.stim with
  | nil => rw [fetch_of_stim_nil hs]; rfl
  | cons u rest => rw [fetch_of_stim_cons hs]; exact h u (by simp [hs])

/-- Settles O10: what a script holds decodes to an event or a STAT, an event keeps the engine's invariant and the queue, and a STAT
touches no register. -/
theorem stepKeepsInvariant : Obligations.StepKeepsInvariant := by
  intro s t h ht
  obtain ⟨i, hdec, hexec⟩ := step_next ht
  have hscript : ∀ u ∈ (advance s).stim, scriptStimulus u = true := fun u hu => h.script u (List.mem_of_mem_tail hu)
  have hengine : EngineInv (advance s) := { h.engine with }
  rcases decode_scriptStimulus (scriptStimulus_fetch h.script) hdec with hi | ⟨k, rfl⟩
  · exact ⟨engineInv_exec hi hengine hexec, by rw [exec_stim hexec]; exact hscript⟩
  · cases hexec
    exact ⟨{ hengine with }, hscript⟩

/-- What every event keeps, a run of events keeps. -/
theorem runInstrs_keeps {P : State → Prop} (hstep : ∀ i s t, i.isEvent = true → P s → exec i s = .next t → P t)
    {is : List Instr} {s t : State} (his : ∀ i ∈ is, i.isEvent = true) (hs : P s) (h : runInstrs is s = .next t) : P t := by
  induction is generalizing s with
  | nil => cases h; exact hs
  | cons i is ih =>
    obtain ⟨u, hu, hrest⟩ := runInstrs_cons_next h
    exact ih (fun j hj => his j (List.mem_cons_of_mem i hj)) (hstep i s u (his i List.mem_cons_self) hs hu) hrest

/-- What RESET establishes and every event keeps holds in every reachable state. -/
theorem reachable_induct {P : State → Prop}
    (hreset : ∀ s t dip resOk, 1 ≤ s.tSettle.toNat → exec (.reset dip resOk) s = .next t → P t)
    (hstep : ∀ i s t, i.isEvent = true → P s → exec i s = .next t → P t) {t : State} (h : Reachable t) : P t := by
  obtain ⟨s, dip, resOk, is, hn, his, hrun⟩ := h
  obtain ⟨u, hu, hrest⟩ := runInstrs_cons_next hrun
  exact runInstrs_keeps hstep his (hreset s u dip resOk hn hu) hrest

theorem engineInv_of_reachable {t : State} (h : Reachable t) : EngineInv t :=
  reachable_induct (fun _ _ _ _ hn ht => engineInv_execReset hn ht) (fun _ _ _ hi hs ht => engineInv_exec hi hs ht) h

/-- Settles O12: the lamps are part of the invariant, and CTX is written out. -/
theorem lampModeIsFunctionOfStatus : Obligations.LampModeIsFunctionOfStatus := by
  intro t i h
  exact (engineInv_of_reachable h).ctl.led i

end Sys2Proof
end

section
/-! The status outputs: what they are, what SAMPLE and RESET make of them, what they tell in a reachable state (10_state R30 to R37). -/

namespace Sys2Proof.Machine

/-! ### The pins of `evt` -/

theorem evtPins_eq_zero_iff (s : State) : evtPins s = 0 ↔ s.out.evtCheck = false ∧ s.out.evtWrite = false := by
  unfold evtPins
  cases s.out.evtCheck <;> cases s.out.evtWrite <;> decide

theorem busy_eq_false_iff {s : State} : busy s = false ↔ s.ctl.phase = .idle := by simp [busy]

/-- From IDLE a SAMPLE makes the engine busy where it shows an event, for the hand-off starts a workflow (43 R158). -/
theorem busy_sampleButtons {s : State} (rC rW : Bool) (hidle : s.ctl.phase = .idle) :
    busy (sampleButtons rC rW s) = true ↔ evtPins (sampleButtons rC rW s) ≠ 0 := by
  rw [sampleButtons_eq, Ne, evtPins_eq_zero_iff]
  rcases handoff_cases (sampled rC rW s) (debounce s.samp.check rC).e (debounce s.samp.write rW).e with
    ⟨-, hC, e⟩ | ⟨-, -, hW, e⟩ | ⟨hno, e⟩ <;> rw [e]
  · simp [busy, sampled, hC]
  · simp [busy, sampled, hW]
  · obtain ⟨hC, hW⟩ := hno.resolve_left (fun hne => hne hidle)
    simp [busy, sampled, hC, hW, hidle]

/-- No event but a SAMPLE shows an event of the buttons (10_state R43). -/
theorem evtPins_exec {i : Instr} {s t : State} (hi : i.isEvent = true) (hns : ∀ rC rW, i ≠ .sample rC rW)
    (h : exec i s = .next t) : evtPins t = 0 := by
  rw [evtPins_eq_zero_iff]
  rcases isEvent_cases hi with ⟨dip, resOk, rfl⟩ | rfl | rfl | ⟨rC, rW, rfl⟩ | ⟨r, rfl⟩
  · rcases execReset_next h with ⟨-, rfl⟩ | ⟨-, rfl⟩ <;> exact ⟨rfl, rfl⟩
  · exact ⟨(controllerFrame_execCtl h).evtCheck, (controllerFrame_execCtl h).evtWrite⟩
  · rcases execTick_next h with ⟨-, rfl⟩ | ⟨-, -, rfl⟩ | ⟨-, -, rfl⟩
    · exact ⟨rfl, rfl⟩
    · rw [lampTick_eq]
      exact ⟨rfl, rfl⟩
    · rcases bootTick_cases s.quiet with ⟨-, e⟩ | ⟨-, e⟩ <;> rw [e] <;> exact ⟨rfl, rfl⟩
  · exact absurd rfl (hns rC rW)
  · exact ⟨(controllerFrame_execRsp h).evtCheck, (controllerFrame_execRsp h).evtWrite⟩

end Sys2Proof.Machine

namespace Sys2Proof

open Machine

/-! ### What the invariant says of the status outputs -/

theorem fatalCodePins_of_inv {s : State} (h : CtlInv s.ctl) : fatalCodePins s = if fatal s = true then 0b110 else 0 := by
  by_cases hf : s.ctl.phase = .fatal <;> simp [fatalCodePins, fatal, h.fatalCode, hf, ErrCode.code]

theorem runErrPins_of_gerr {s : State} (h : CtlInv s.ctl) (hg : s.ctl.gerr = true) :
    runErrPins s = 0b001 ∨ runErrPins s = 0b011 := by
  rcases h.runErrCode hg with e | e
  · exact .inl (by rw [runErrPins, e]; rfl)
  · exact .inr (by rw [runErrPins, e]; rfl)

theorem runErrPins_of_not_gerr {s : State} (h : CtlInv s.ctl) (hg : s.ctl.gerr = false) : runErrPins s = 0 := by
  rw [runErrPins, h.runErr.mpr hg]
  rfl

theorem bootDone_of_ready {s : State} (h : EngineInv s) (hr : ready s = true) : s.sched.bootDone = true := by
  obtain ⟨hb, hf⟩ := of_decide_eq_true hr
  exact h.boot hb hf

/-- Settles O53: the outputs as functions of state, SAMPLE, RESET, what keeps `fa_speed` and `evt`, and the reachable states. -/
theorem statusOutputs : Obligations.StatusOutputs := by
  refine ⟨fun s => ?functions, fun s t rC rW h => ?sample, fun s t dip resOk h => ?reset,
    fun i s t hi h => (hostFrame_exec hi h).speedCfg, fun i s t hi hns h => evtPins_exec hi hns h, fun t h => ?reachable⟩
  case functions => exact ⟨decide_eq_true_iff, decide_eq_true_iff, decide_eq_true_iff, rfl, rfl, rfl⟩
  case sample =>
    refine ⟨fun hb => ?_, fun hb => ?_⟩
    · obtain ⟨-, -, -, hmask⟩ := execSample_writes h
      exact hmask (of_decide_eq_true hb)
    · have hidle := busy_eq_false_iff.mp hb
      rcases execSample_next h with ⟨hf, -⟩ | ⟨-, rfl⟩
      · exact absurd (hidle.symm.trans hf) (by decide)
      · exact busy_sampleButtons (s := s.quiet) rC rW hidle
  case reset =>
    have hevt := evtPins_exec rfl (fun _ _ => by simp) h
    rcases execReset_next h with ⟨rfl, rfl⟩ | ⟨rfl, rfl⟩ <;>
      exact ⟨rfl, rfl, rfl, rfl, rfl, rfl, hevt, rfl⟩
  case reachable =>
    have hinv := engineInv_of_reachable h
    have hcode := fatalCodePins_of_inv hinv.ctl
    exact ⟨bootDone_of_ready hinv, fun hf => by rw [hcode, if_pos hf], fun hf => by rw [hcode, hf]; rfl,
      runErrPins_of_gerr hinv.ctl, runErrPins_of_not_gerr hinv.ctl⟩

end Sys2Proof
end

section
/-! Where the slot address may change, and what the settling time before a request keeps (20_memory R73, 44 R178, R179). -/

namespace Sys2Proof.Machine

/-! ### The slot address -/

/-- A CTL writes the slot address in SELECT only (40 R113). -/
theorem execCtl_muxAddr {s t : State} (hp : s.ctl.phase ≠ .select) (h : exec .ctl s = .next t) : t.ctl.muxAddr = s.ctl.muxAddr := by
  rcases execCtl_next_cases h with ⟨-, rfl⟩ | ⟨-, rfl⟩ | ⟨hsel, -⟩ | ⟨-, rfl⟩ | ⟨-, rfl⟩ | ⟨-, rfl⟩ | ⟨-, rfl⟩
  · unfold bootOnCtl
    split <;> rfl
  · rfl
  · exact absurd hsel hp
  · rcases settleOnCtl_cases s.quiet with ⟨-, e⟩ | ⟨cmd, -, e⟩ <;> rw [e] <;> rfl
  · rfl
  · rcases nextOnCtl_cases s.quiet with ⟨-, e⟩ | ⟨-, p, -, e⟩ <;> rw [e] <;> rfl
  · rfl

theorem setCurRecord_muxAddr (c : CtlRegs) (f : SlotState → SlotState) : (setCurRecord c f).muxAddr = c.muxAddr := by
  rw [setCurRecord_eq]

theorem detectOnRsp_muxAddr (r : Rsp) (s : State) : (detectOnRsp r s).ctl.muxAddr = s.ctl.muxAddr := by
  rcases detectOnRsp_cases r s with ⟨-, e⟩ | ⟨-, -, e⟩ | ⟨-, -, e⟩ | ⟨-, -, e⟩ <;> rw [e]
  · rw [targetDetected_eq, State.withCtl_ctl, slotDone_muxAddr, setCurRecord_muxAddr]
  · rcases refDetectedInCheck_cases r s with ⟨-, e'⟩ | ⟨-, e'⟩ <;> rw [e'] <;> rfl
  · rcases refDetectedInWrite_cases r s with ⟨-, e'⟩ | ⟨-, e'⟩ <;> rw [e'] <;> rfl

theorem attemptDone_muxAddr (k : OpResult) (s : State) : (attemptDone k s).ctl.muxAddr = s.ctl.muxAddr := by
  rw [attemptDone_eq, State.withCtl_ctl, slotDone_muxAddr, setCurRecord_muxAddr]

/-- An RSP does not write the slot address (40 R113). -/
theorem execRsp_muxAddr {r : Rsp} {s t : State} (h : exec (.rsp r) s = .next t) : t.ctl.muxAddr = s.ctl.muxAddr := by
  rcases execRsp_next_cases h with ⟨-, rfl⟩ | ⟨-, rfl⟩ | ⟨-, rfl⟩ | ⟨-, rfl⟩ | ⟨-, rfl⟩
  · exact detectOnRsp_muxAddr r _
  · rcases readOnRsp_cases r s.quiet with ⟨-, e⟩ | ⟨-, e⟩ <;> rw [e] <;> rfl
  · rcases writeOnRsp_cases r s.quiet with ⟨-, e⟩ | ⟨-, e⟩ <;> rw [e]
    · rfl
    · exact attemptDone_muxAddr _ _
  · exact attemptDone_muxAddr _ _
  · rfl

/-- Outside SELECT no event but RESET changes the slot address (40 R113). -/
theorem exec_muxAddr {i : Instr} {s t : State} (hi : i.isEvent = true) (hr : notReset i = true) (hp : s.ctl.phase ≠ .select)
    (h : exec i s = .next t) : t.ctl.muxAddr = s.ctl.muxAddr := by
  rcases isEvent_cases hi with ⟨dip, resOk, rfl⟩ | rfl | rfl | ⟨rC, rW, rfl⟩ | ⟨r, rfl⟩
  · exact absurd hr Bool.false_ne_true
  · exact execCtl_muxAddr hp h
  · rw [(execTick_writes h).1]
  · obtain ⟨-, -, hctl, -⟩ := execSample_writes h
    rw [hctl]
  · exact execRsp_muxAddr h

theorem phase_ne_select_of_outstanding {s : State} (h : outstanding s = true) : s.ctl.phase ≠ .select := by
  intro hp
  rw [outstanding, hp] at h
  exact Bool.false_ne_true h

/-! ### The settling time -/

/-- The engine waits in SETTLE on slot `a` with `n` still to count, and the event that led here issued no request (44 R179). -/
structure Settling (a n : Nat) (s : State) : Prop where
  phase : s.ctl.phase = .settle
  muxAddr : s.ctl.muxAddr.toNat = a
  settleCtr : s.ctl.settleCtr.toNat = n
  faReq : s.out.faReq = false

/-- SELECT of a slot that exists puts its number on the address lines and loads the counter with T_SETTLE (44 R178). -/
theorem settling_of_select {s t : State} (hp : s.ctl.phase = .select) (hcur : s.ctl.cur.toNat ≤ 15) (h : exec .ctl s = .next t) :
    Settling s.ctl.cur.toNat s.tSettle.toNat t := by
  have haddr : (BitVec.ofNat 4 s.ctl.cur.toNat).toNat = s.ctl.cur.toNat := by
    rw [BitVec.toNat_ofNat]
    omega
  rw [execCtl_select hp] at h
  rcases selectOnCtl_next h with ⟨hgt, -⟩ | ⟨-, rfl⟩
  · exact absurd hcur (Nat.not_le.mpr hgt)
  · rcases selectedRegs_cases { s.ctl with muxAddr := BitVec.ofNat 4 s.ctl.cur.toNat } s.tSettle with ⟨-, e⟩ | ⟨-, e⟩ <;>
      simp only [State.quiet_ctl, State.quiet_tSettle, e] <;> exact ⟨rfl, haddr, rfl, rfl⟩

/-- While the counter is not 0, a CTL counts it down by one and does nothing else (44 R179). -/
theorem Settling.exec_ctl {a n : Nat} {s t : State} (hs : Settling a (n + 1) s) (h : exec .ctl s = .next t) : Settling a n t := by
  have hctr := hs.settleCtr
  have hne : s.ctl.settleCtr ≠ 0 := fun h0 => by simp [h0] at hctr
  rw [execCtl_settle hs.phase, settleOnCtl, State.quiet_ctl, if_pos hne] at h
  cases h
  exact ⟨hs.phase, hs.muxAddr, show (s.ctl.settleCtr - 1).toNat = n by bv_omega, rfl⟩

/-- So do `k` of them in a row, where the counter reaches that far. -/
theorem Settling.run_ctl {a n k : Nat} {s t : State} (hs : Settling a (n + k) s)
    (h : runInstrs (List.replicate k .ctl) s = .next t) : Settling a n t := by
  induction k generalizing s with
  | zero => cases h; exact hs
  | succ k ih =>
    obtain ⟨u, hu, hrest⟩ := runInstrs_cons_next h
    exact ih (hs.exec_ctl hu) hrest

end Sys2Proof.Machine

namespace Sys2Proof

open Machine

/-- Settles O59: a wait phase is not SELECT, the one phase that writes the address; and the first of the `k` CTL events is the SELECT,
the other `k - 1` count down from T_SETTLE. -/
theorem addressSteadyBeforeAndDuringRequest : Obligations.AddressSteadyBeforeAndDuringRequest := by
  refine ⟨fun i s t hi hr hout h => exec_muxAddr hi hr (phase_ne_select_of_outstanding hout) h,
    fun s t k hp hcur hk hle h => ?_⟩
  obtain ⟨j, rfl⟩ : ∃ j, k = j + 1 := Nat.exists_eq_add_of_le' hk
  obtain ⟨u, hu, hrest⟩ := runInstrs_cons_next h
  obtain ⟨n, hn⟩ : ∃ n, s.tSettle.toNat = n + j := Nat.exists_eq_add_of_le' (Nat.le_of_succ_le_succ hle)
  have hsettling : Settling s.ctl.cur.toNat (n + j) u := hn ▸ settling_of_select hp hcur hu
  have hlast := hsettling.run_ctl hrest
  exact ⟨hlast.phase, hlast.muxAddr, hlast.faReq⟩

end Sys2Proof
end

section
/-! The words and codes of 30_encoding taken apart and put together: a stimulus word is its fields (R98), a short code stands
zero-extended in one (R94), and a code that names something is that thing's code (R81 to R91). -/

namespace Sys2Proof

/-! ### The stimulus word -/

/-- A stimulus word is put together of its three fields (30_encoding R98). -/
theorem stimWord_of_fields {w : StimWord} {kind aux : BitVec 4} {val : BitVec 32} (hkind : (w.extractLsb' 36 4).toNat = kind.toNat)
    (haux : w.extractLsb' 32 4 = aux) (hval : w.extractLsb' 0 32 = val) : stimWord kind aux val = w := by
  rw [stimWord, ← BitVec.eq_of_toNat_eq hkind, ← haux, ← hval, BitVec.extractLsb'_append_extractLsb'_eq_extractLsb',
    BitVec.extractLsb'_append_extractLsb']
  rfl

/-- Where all 36 bits below the kind are 0, the word is its kind. -/
theorem stimWord_of_low_zero {w : StimWord} {kind : BitVec 4} (hkind : (w.extractLsb' 36 4).toNat = kind.toNat)
    (hlow : w.extractLsb' 0 36 = 0) : stimWord kind 0 0 = w := by
  have haux : (w.extractLsb' 0 36).extractLsb' 32 4 = w.extractLsb' 32 4 := BitVec.extractLsb'_extractLsb'_of_le (by decide)
  have hval : (w.extractLsb' 0 36).extractLsb' 0 32 = w.extractLsb' 0 32 := BitVec.extractLsb'_extractLsb'_of_le (by decide)
  rw [hlow] at haux hval
  exact stimWord_of_fields hkind haux.symm hval.symm

theorem ofBool_getLsbD_eq_extractLsb' {n : Nat} (w : BitVec n) (i : Nat) : BitVec.ofBool (w.getLsbD i) = w.extractLsb' i 1 := by
  apply BitVec.eq_of_getLsbD_eq
  intro j hj
  obtain rfl : j = 0 := by omega
  simp

/-- The `aux` field of a SAMPLE: two zero bits, `rW`, `rC`. -/
theorem sampleAux_eq {w : StimWord} (h : w.extractLsb' 34 2 = 0#2) :
    w.extractLsb' 32 4 = 0#2 ++ BitVec.ofBool (w.getLsbD 33) ++ BitVec.ofBool (w.getLsbD 32) := by
  rw [← h, ofBool_getLsbD_eq_extractLsb', ofBool_getLsbD_eq_extractLsb', BitVec.extractLsb'_append_extractLsb'_eq_extractLsb',
    BitVec.extractLsb'_append_extractLsb'_eq_extractLsb'] <;> rfl

/-- The `aux` field of an RSP: `flag`, then the status code. -/
theorem rspAux_eq (w : StimWord) : w.extractLsb' 32 4 = BitVec.ofBool (w.getLsbD 35) ++ w.extractLsb' 32 3 := by
  rw [ofBool_getLsbD_eq_extractLsb', BitVec.extractLsb'_append_extractLsb'_eq_extractLsb']
  rfl

/-- The `aux` field of a RESET: three zero bits, `res_ok`. -/
theorem resetAux_eq {w : StimWord} (h : w.extractLsb' 33 3 = 0#3) :
    w.extractLsb' 32 4 = 0#3 ++ BitVec.ofBool (w.getLsbD 32) := by
  rw [← h, ofBool_getLsbD_eq_extractLsb', BitVec.extractLsb'_append_extractLsb'_eq_extractLsb']
  rfl

/-- What is read inside the `aux` field of a word is read of the field it was put together from. -/
theorem stimWord_auxBits (kind aux : BitVec 4) (val : BitVec 32) {i n : Nat} (h : i + n ≤ 4) :
    (stimWord kind aux val).extractLsb' (32 + i) n = aux.extractLsb' i n := by
  rw [stimWord, BitVec.extractLsb'_append_eq_of_le (Nat.le_add_right 32 i), Nat.add_sub_cancel_left,
    BitVec.extractLsb'_append_eq_of_add_le h]

theorem stimWord_auxBit (kind aux : BitVec 4) (val : BitVec 32) {i : Nat} (h : i < 4) :
    (stimWord kind aux val).getLsbD (32 + i) = aux.getLsbD i := by
  rw [BitVec.getLsbD_eq_extractLsb', stimWord_auxBits kind aux val h, ← BitVec.getLsbD_eq_extractLsb']

/-! ### Codes that stand zero-extended in a word -/

theorem highBitsZero_iff {n : Nat} {w : StimWord} : highBitsZero n w = true ↔ w.toNat < 2 ^ n := by
  simp [highBitsZero]

theorem toNat_setWidth_of_lt {n : Nat} {w : StimWord} (h : w.toNat < 2 ^ n) : (w.setWidth n).toNat = w.toNat := by
  rw [BitVec.toNat_setWidth, Nat.mod_eq_of_lt h]

/-- A code of `m` bits is still whole where `n` of them are kept. -/
theorem setWidth_setWidth_of_highBitsZero {m n : Nat} {w : StimWord} (hmn : m ≤ n) (h : highBitsZero m w = true) :
    (w.setWidth n).setWidth 40 = w := by
  have hlt : w.toNat < 2 ^ n := (highBitsZero_iff.mp h).trans_le (Nat.pow_le_pow_right (by decide) hmn)
  apply BitVec.eq_of_toNat_eq
  rw [BitVec.toNat_setWidth, toNat_setWidth_of_lt hlt, Nat.mod_eq_of_lt w.isLt]

theorem highBitsZero_setWidth {n : Nat} (c : BitVec n) (h : n ≤ 40) : highBitsZero n (c.setWidth 40) = true :=
  highBitsZero_iff.mpr (Laws.setWidth_fits c h)

theorem setWidth_setWidth_code {n : Nat} (c : BitVec n) (h : n ≤ 40) : (c.setWidth 40).setWidth n = c := by
  rw [BitVec.setWidth_setWidth_of_le c h, BitVec.setWidth_eq]

/-! ### Codes and what they name -/

@[simp] theorem ErrCode.code_ofCode (c : BitVec 3) : (ErrCode.ofCode c).code = c := by
  revert c
  decide

@[simp] theorem DbState.code_ofCode (c : BitVec 2) : (DbState.ofCode c).code = c := by
  revert c
  decide

theorem FaCmd.code_of_ofCode {c : BitVec 3} {f : FaCmd} (h : FaCmd.ofCode c = some f) : f.code = c := by
  revert c f
  decide

theorem Button.index_of_ofIndex {w : StimWord} {b : Button} (h : Button.ofIndex w.toNat = some b) : b.index = w := by
  unfold Button.ofIndex at h
  split at h
  next hw => cases h; exact (BitVec.eq_of_toNat_eq hw).symm
  next hw => cases h; exact (BitVec.eq_of_toNat_eq hw).symm
  next => cases h

@[simp] theorem Button.ofIndex_index (b : Button) : Button.ofIndex b.index.toNat = some b := by
  cases b <;> rfl

theorem Phase.ofCode_eq_none {c : BitVec 4} (h : 12 ≤ c.toNat) : Phase.ofCode c = none := by
  revert c
  decide

theorem LedMode.ofCode_eq_none {c : BitVec 3} (h : 5 ≤ c.toNat) : LedMode.ofCode c = none := by
  revert c
  decide

theorem FaCmd.ofCode_eq_none {c : BitVec 3} (h : 5 ≤ c.toNat) : FaCmd.ofCode c = none := by
  revert c
  decide

end Sys2Proof
end

section
/-! Decoding and encoding, port by port: what the decoder makes of an encoding, and whose encoding a stimulus it takes is
(30_encoding R84 to R98; log entries 9, 10). -/

namespace Sys2Proof

/-! ### Words with nothing beside them -/

theorem decodePlain_eq_ok_iff {fieldsZero : Bool} {image : Option (List Byte)} {i j : Instr} :
    decodePlain fieldsZero image i = .ok j ↔ image = none ∧ fieldsZero = true ∧ i = j := by
  unfold decodePlain
  split_ifs <;> simp_all

/-! ### Stimulus words, kind by kind (30_encoding R98) -/

theorem decodeWord_of_kind_zero {w : StimWord} (h : (w.extractLsb' 36 4).toNat = 0) (image : Option (List Byte)) :
    decodeWord w image = decodePlain (decide (w.extractLsb' 0 36 = 0)) image .ctl := by
  simp only [decodeWord, h]

theorem decodeWord_of_kind_one {w : StimWord} (h : (w.extractLsb' 36 4).toNat = 1) (image : Option (List Byte)) :
    decodeWord w image = decodePlain (decide (w.extractLsb' 0 36 = 0)) image .tick := by
  simp only [decodeWord, h]

theorem decodeWord_of_kind_two {w : StimWord} (h : (w.extractLsb' 36 4).toNat = 2) (image : Option (List Byte)) :
    decodeWord w image =
      decodePlain (decide (w.extractLsb' 34 2 = 0 ∧ w.extractLsb' 0 32 = 0)) image (.sample (w.getLsbD 32) (w.getLsbD 33)) := by
  simp only [decodeWord, h]

theorem decodeWord_of_kind_three {w : StimWord} (h : (w.extractLsb' 36 4).toNat = 3) (image : Option (List Byte)) :
    decodeWord w image = .ok (.rsp (rspOfWord w image)) := by
  simp only [decodeWord, h]

theorem decodeWord_of_kind_fifteen {w : StimWord} (h : (w.extractLsb' 36 4).toNat = 15) (image : Option (List Byte)) :
    decodeWord w image =
      decodePlain (decide (w.extractLsb' 33 3 = 0)) image (.reset (w.extractLsb' 0 32) (w.getLsbD 32)) := by
  simp only [decodeWord, h]

theorem decodeWord_of_kind_reserved {w : StimWord} (hlo : 4 ≤ (w.extractLsb' 36 4).toNat) (hhi : (w.extractLsb' 36 4).toNat ≤ 14)
    (image : Option (List Byte)) : decodeWord w image = .error .reservedKind := by
  unfold decodeWord
  split
  · omega
  · omega
  · omega
  · omega
  · omega
  · rfl

theorem kind_cases (w : StimWord) :
    (w.extractLsb' 36 4).toNat = 0 ∨ (w.extractLsb' 36 4).toNat = 1 ∨ (w.extractLsb' 36 4).toNat = 2 ∨
    (w.extractLsb' 36 4).toNat = 3 ∨ (w.extractLsb' 36 4).toNat = 15 ∨
    (4 ≤ (w.extractLsb' 36 4).toNat ∧ (w.extractLsb' 36 4).toNat ≤ 14) := by
  have := (w.extractLsb' 36 4).isLt
  omega

/-- A word of kind 0011 is the word of the answer read from it: no bit of it is left unread. -/
theorem rspWord_rspOfWord {w : StimWord} (h : (w.extractLsb' 36 4).toNat = 3) (image : Option (List Byte)) :
    rspWord (rspOfWord w image) = w := by
  refine stimWord_of_fields h ?_ rfl
  simp only [rspOfWord, ErrCode.code_ofCode]
  exact rspAux_eq w

theorem wellFormed_encode_of_decodeWord {w : StimWord} {image : Option (List Byte)} {i : Instr} (h : decodeWord w image = .ok i) :
    i.wellFormed = true ∧ encode i = { port := .stimulus, code := w, image := image } := by
  rcases kind_cases w with hk | hk | hk | hk | hk | ⟨hlo, hhi⟩
  · rw [decodeWord_of_kind_zero hk, decodePlain_eq_ok_iff, decide_eq_true_iff] at h
    obtain ⟨rfl, hlow, rfl⟩ := h
    exact ⟨rfl, by rw [encode, stimWord_of_low_zero hk hlow]⟩
  · rw [decodeWord_of_kind_one hk, decodePlain_eq_ok_iff, decide_eq_true_iff] at h
    obtain ⟨rfl, hlow, rfl⟩ := h
    exact ⟨rfl, by rw [encode, stimWord_of_low_zero hk hlow]⟩
  · rw [decodeWord_of_kind_two hk, decodePlain_eq_ok_iff, decide_eq_true_iff] at h
    obtain ⟨rfl, ⟨haux, hval⟩, rfl⟩ := h
    exact ⟨rfl, by rw [encode, stimWord_of_fields hk (sampleAux_eq haux) hval]⟩
  · rw [decodeWord_of_kind_three hk] at h
    cases h
    exact ⟨rfl, by rw [encode, rspWord_rspOfWord hk]; rfl⟩
  · rw [decodeWord_of_kind_fifteen hk, decodePlain_eq_ok_iff, decide_eq_true_iff] at h
    obtain ⟨rfl, haux, rfl⟩ := h
    exact ⟨decide_eq_true (w.extractLsb' 0 32).isLt, by rw [encode, stimWord_of_fields hk (resetAux_eq haux) rfl]⟩
  · rw [decodeWord_of_kind_reserved hlo hhi] at h
    cases h

theorem decode_encode_rsp (r : Rsp) : decode (encode (.rsp r)) = .ok (.rsp r) := by
  have hk : ((rspWord r).extractLsb' 36 4).toNat = 3 := by
    rw [rspWord, stimWord_kind]
    rfl
  calc decode (encode (.rsp r))
      = decodeWord (rspWord r) r.image := rfl
    _ = .ok (.rsp r) := by rw [decodeWord_of_kind_three hk, rspOfWord_rspWord]

theorem decode_encode_reset (dip : BitVec 32) (resOk : Bool) : decode (encode (.reset dip resOk)) = .ok (.reset dip resOk) := by
  have hk : ((stimWord 0b1111 (0#3 ++ BitVec.ofBool resOk) dip).extractLsb' 36 4).toNat = 15 := by
    rw [stimWord_kind]
    rfl
  have hzero : (stimWord 0b1111 (0#3 ++ BitVec.ofBool resOk) dip).extractLsb' 33 3 = 0 := by
    rw [stimWord_auxBits (i := 1) _ _ _ (by decide), BitVec.extractLsb'_append_eq_left]
    rfl
  have hbit : (stimWord 0b1111 (0#3 ++ BitVec.ofBool resOk) dip).getLsbD 32 = resOk := by
    rw [stimWord_auxBit (i := 0) _ _ _ (by decide)]
    cases resOk <;> rfl
  calc decode (encode (.reset dip resOk))
      = decodeWord (stimWord 0b1111 (0#3 ++ BitVec.ofBool resOk) dip) none := rfl
    _ = .ok (.reset dip resOk) := by
      rw [decodeWord_of_kind_fifteen hk, decodePlain_eq_ok_iff, hzero, hbit, stimWord_val]
      exact ⟨rfl, rfl, rfl⟩

/-! ### Format P -/

theorem encode_phaseInstr (e : CtlEvent) (p : Phase) : encode (phaseInstr e p) = encodePhase p e := by
  cases p <;> rfl

theorem wellFormed_phaseInstr (e : CtlEvent) (p : Phase) : (phaseInstr e p).wellFormed = true := by
  cases p <;> rfl

theorem ctlEvent_of_decodeCtlEvent {w : StimWord} {image : Option (List Byte)} {e : CtlEvent} (h : decodeCtlEvent w image = .ok e) :
    ctlEventWord e = w ∧ ctlEventImage e = image := by
  unfold decodeCtlEvent at h
  split at h
  next =>
    split_ifs at h with himage hw
    cases h
    exact ⟨hw.symm, (not_not.mp himage).symm⟩
  next hk =>
    cases h
    exact ⟨rspWord_rspOfWord hk image, rfl⟩
  next => cases h

theorem decode_encodePhase (p : Phase) (e : CtlEvent) : decode (encodePhase p e) = .ok (phaseInstr e p) := by
  have hcode : Phase.ofCode ((p.code.setWidth 40).setWidth 4) = some p := by
    rw [setWidth_setWidth_code p.code (by decide), Phase.ofCode_code]
  calc decode (encodePhase p e)
      = decodePhase (p.code.setWidth 40) (ctlEventWord e) (ctlEventImage e) := rfl
    _ = .ok (phaseInstr e p) := by
      simp only [decodePhase, highBitsZero_setWidth p.code (by decide : 4 ≤ 40), hcode, decodeCtlEvent_word, if_true]

theorem wellFormed_encode_of_decodePhase {w arg : StimWord} {image : Option (List Byte)} {i : Instr} (h : decodePhase w arg image = .ok i) :
    i.wellFormed = true ∧ encode i = { port := .phase, code := w, arg := arg, image := image } := by
  unfold decodePhase at h
  split_ifs at h with hw
  split at h
  next => cases h
  next p hp =>
    split at h
    next => cases h
    next e he =>
      cases h
      obtain ⟨rfl, rfl⟩ := ctlEvent_of_decodeCtlEvent he
      refine ⟨wellFormed_phaseInstr e p, ?_⟩
      rw [encode_phaseInstr, encodePhase, Phase.code_of_ofCode hp, setWidth_setWidth_of_highBitsZero le_rfl hw]

/-! ### Format M -/

theorem encode_ledModeInstr (i : Slot) (m : LedMode) : encode (ledModeInstr i m) = encodeLedMode m i := by
  cases m <;> rfl

theorem wellFormed_ledModeInstr (i : Slot) (m : LedMode) : (ledModeInstr i m).wellFormed = true := by
  cases m <;> rfl

theorem decode_encodeLedMode (m : LedMode) (i : Slot) : decode (encodeLedMode m i) = .ok (ledModeInstr i m) := by
  have hslot : (BitVec.ofNat 40 i.val).toNat = i.val := by
    rw [BitVec.toNat_ofNat]
    omega
  have hcode : LedMode.ofCode ((m.code.setWidth 40).setWidth 3) = some m := by
    rw [setWidth_setWidth_code m.code (by decide), LedMode.ofCode_code]
  calc decode (encodeLedMode m i)
      = decodeLedMode (m.code.setWidth 40) (BitVec.ofNat 40 i.val) := rfl
    _ = .ok (ledModeInstr i m) := by
      simp only [decodeLedMode, highBitsZero_setWidth m.code (by decide : 3 ≤ 40), hcode, hslot, i.isLt, if_true, dif_pos]

theorem wellFormed_encode_of_decodeLedMode {w arg : StimWord} {i : Instr} (h : decodeLedMode w arg = .ok i) :
    i.wellFormed = true ∧ encode i = { port := .ledMode, code := w, arg := arg } := by
  unfold decodeLedMode at h
  split at h
  case isFalse => cases h
  case isTrue hw =>
    split at h
    next => cases h
    next m hm =>
      split_ifs at h
      cases h
      refine ⟨wellFormed_ledModeInstr _ m, ?_⟩
      rw [encode_ledModeInstr, encodeLedMode, LedMode.code_of_ofCode hm, setWidth_setWidth_of_highBitsZero le_rfl hw,
        BitVec.ofNat_toNat, BitVec.setWidth_eq]

/-! ### Format B -/

theorem encode_debounceInstr (b : Button) (r : Bool) (d : DbState) : encode (debounceInstr b r d) = encodeDebounce d b r := by
  cases d <;> rfl

theorem wellFormed_debounceInstr (b : Button) (r : Bool) (d : DbState) : (debounceInstr b r d).wellFormed = true := by
  cases d <;> rfl

theorem decode_encodeDebounce (d : DbState) (b : Button) (r : Bool) : decode (encodeDebounce d b r) = .ok (debounceInstr b r d) := by
  have hstate : ((d.code ++ BitVec.ofBool r).setWidth 40).extractLsb' 1 2 = d.code := by
    rw [BitVec.extractLsb'_setWidth_of_le (by decide), BitVec.extractLsb'_append_eq_left]
  have hlevel : ((d.code ++ BitVec.ofBool r).setWidth 40).getLsbD 0 = r := by
    rw [BitVec.getLsbD_setWidth, BitVec.getLsbD_append]
    simp
  calc decode (encodeDebounce d b r)
      = decodeDebounce ((d.code ++ BitVec.ofBool r).setWidth 40) b.index := rfl
    _ = .ok (debounceInstr b r d) := by
      simp only [decodeDebounce, highBitsZero_setWidth (d.code ++ BitVec.ofBool r) (by decide : 3 ≤ 40), Button.ofIndex_index, hstate,
        hlevel, DbState.ofCode_code, if_true]

theorem wellFormed_encode_of_decodeDebounce {w arg : StimWord} {i : Instr} (h : decodeDebounce w arg = .ok i) :
    i.wellFormed = true ∧ encode i = { port := .debounce, code := w, arg := arg } := by
  unfold decodeDebounce at h
  split_ifs at h with hw
  split at h
  next => cases h
  next b hb =>
    cases h
    have hcode : w.extractLsb' 1 2 ++ BitVec.ofBool (w.getLsbD 0) = w.setWidth 3 := by
      rw [ofBool_getLsbD_eq_extractLsb', BitVec.setWidth_eq_extractLsb' (by decide)]
      exact BitVec.extractLsb'_append_extractLsb'_eq_extractLsb' rfl
    refine ⟨wellFormed_debounceInstr b _ _, ?_⟩
    rw [encode_debounceInstr, encodeDebounce, DbState.code_ofCode, hcode, setWidth_setWidth_of_highBitsZero le_rfl hw,
      Button.index_of_ofIndex hb]

/-! ### Format F -/

theorem encodeFaCmd_of_ofCode {w : StimWord} {c : FaCmd} (hw : highBitsZero 3 w = true) (hc : FaCmd.ofCode (w.setWidth 3) = some c) :
    encodeFaCmd c = { port := .faCmd, code := w } := by
  rw [encodeFaCmd, FaCmd.code_of_ofCode hc, setWidth_setWidth_of_highBitsZero le_rfl hw]

theorem wellFormed_encode_of_decodeFaCmd {w : StimWord} {i : Instr} (h : decodeFaCmd w = .ok i) :
    i.wellFormed = true ∧ encode i = { port := .faCmd, code := w } := by
  unfold decodeFaCmd at h
  split_ifs at h with hw
  split at h
  next hc => cases h; exact ⟨rfl, encodeFaCmd_of_ofCode hw hc⟩
  next hc => cases h; exact ⟨rfl, encodeFaCmd_of_ofCode hw hc⟩
  next hc => cases h; exact ⟨rfl, encodeFaCmd_of_ofCode hw hc⟩
  next hc => cases h; exact ⟨rfl, encodeFaCmd_of_ofCode hw hc⟩
  next => cases h

/-! ### Formats A and X -/

theorem decode_encode_select {n : BitVec 5} (h : n.toNat < 16) : decode (encode (.select n)) = .ok (.select n) := by
  have hhigh : highBitsZero 4 (n.setWidth 40) = true := highBitsZero_iff.mpr (Laws.EncodingFits.select n (decide_eq_true h))
  calc decode (encode (.select n))
      = decodePlain (highBitsZero 4 (n.setWidth 40)) none (.select ((n.setWidth 40).setWidth 5)) := rfl
    _ = .ok (.select n) := by
      rw [decodePlain_eq_ok_iff, setWidth_setWidth_code n (by decide)]
      exact ⟨rfl, hhigh, rfl⟩

theorem decode_encode_stat (k : BitVec 4) : decode (encode (.stat k)) = .ok (.stat k) := by
  calc decode (encode (.stat k))
      = decodePlain (highBitsZero 4 (k.setWidth 40)) none (.stat ((k.setWidth 40).setWidth 4)) := rfl
    _ = .ok (.stat k) := by
      rw [decodePlain_eq_ok_iff, setWidth_setWidth_code k (by decide)]
      exact ⟨rfl, highBitsZero_setWidth k (by decide), rfl⟩

theorem decode_encode_render (p : Pattern) : decode (encode (.render p)) = .ok (.render p) := by
  have hhigh : highBitsZero 16 (encode (.render p)).arg = true := highBitsZero_setWidth p (by decide)
  have hpat : (encode (.render p)).arg.setWidth 16 = p := setWidth_setWidth_code p (by decide)
  rw [decode, hhigh, hpat]
  rfl

theorem wellFormed_encode_of_decode_muxAddr {code arg : StimWord} {image : Option (List Byte)} {i : Instr}
    (h : decode { port := .muxAddr, code := code, arg := arg, image := image } = .ok i) :
    i.wellFormed = true ∧ encode i = { port := .muxAddr, code := code, arg := arg, image := image } := by
  simp only [decode] at h
  split_ifs at h with harg
  obtain ⟨rfl, hhigh, rfl⟩ := decodePlain_eq_ok_iff.mp h
  refine ⟨?_, by rw [encode, setWidth_setWidth_of_highBitsZero (by decide) hhigh, not_not.mp harg]⟩
  refine decide_eq_true ?_
  rw [BitVec.toNat_setWidth]
  exact (Nat.mod_le _ _).trans_lt (highBitsZero_iff.mp hhigh)

theorem wellFormed_encode_of_decode_stIdx {code arg : StimWord} {image : Option (List Byte)} {i : Instr}
    (h : decode { port := .stIdx, code := code, arg := arg, image := image } = .ok i) :
    i.wellFormed = true ∧ encode i = { port := .stIdx, code := code, arg := arg, image := image } := by
  simp only [decode] at h
  split_ifs at h with harg
  obtain ⟨rfl, hhigh, rfl⟩ := decodePlain_eq_ok_iff.mp h
  exact ⟨rfl, by rw [encode, setWidth_setWidth_of_highBitsZero le_rfl hhigh, not_not.mp harg]⟩

theorem wellFormed_encode_of_decode_archReq {code arg : StimWord} {image : Option (List Byte)} {i : Instr}
    (h : decode { port := .archReq, code := code, arg := arg, image := image } = .ok i) :
    i.wellFormed = true ∧ encode i = { port := .archReq, code := code, arg := arg, image := image } := by
  simp only [decode] at h
  split_ifs at h with harg
  obtain ⟨rfl, hcode, rfl⟩ := decodePlain_eq_ok_iff.mp h
  exact ⟨rfl, by rw [encode, of_decide_eq_true hcode, not_not.mp harg]⟩

theorem wellFormed_encode_of_decode_srLatch {code arg : StimWord} {image : Option (List Byte)} {i : Instr}
    (h : decode { port := .srLatch, code := code, arg := arg, image := image } = .ok i) :
    i.wellFormed = true ∧ encode i = { port := .srLatch, code := code, arg := arg, image := image } := by
  simp only [decode] at h
  split_ifs at h with hhigh
  obtain ⟨rfl, hcode, rfl⟩ := decodePlain_eq_ok_iff.mp h
  exact ⟨rfl, by rw [encode, of_decide_eq_true hcode, setWidth_setWidth_of_highBitsZero le_rfl (Bool.not_eq_false _ ▸ hhigh)]⟩

/-! ### The round trips -/

/-- Settles O1: the formats with one operand beside the code go through the code's own round trip, and a SELECT is the one instruction
whose well-formedness is needed. -/
theorem encodeThenDecode : Obligations.EncodeThenDecode := by
  intro i hwf
  cases i with
  | reset dip resOk => exact decode_encode_reset dip resOk
  | ctl | tick | detect | read | write | verify | store => rfl
  | sample rC rW => cases rC <;> cases rW <;> rfl
  | rsp r => exact decode_encode_rsp r
  | phBoot e | phIdle e | phStart e | phSelect e | phSettle e | phDetect e | phRead e | phArchive e | phWrite e | phVerify e
  | phNext e | phFatal e => exact decode_encodePhase _ e
  | blOff i | blOn i | blSlow i | blFast i | blData i => exact decode_encodeLedMode _ i
  | dbIdle b r | dbPend b r | dbConf b r | dbRel b r => exact decode_encodeDebounce _ b r
  | select n => exact decode_encode_select (of_decide_eq_true hwf)
  | stat k => exact decode_encode_stat k
  | render p => exact decode_encode_render p

/-- Settles O2: on each port, what the decoder reads from the stimulus is all there is in it. -/
theorem decodeThenEncode : Obligations.DecodeThenEncode := by
  rintro ⟨port, code, arg, image⟩ i h
  cases port with
  | stimulus =>
    simp only [decode] at h
    split_ifs at h with harg
    subst harg
    exact wellFormed_encode_of_decodeWord h
  | phase => exact wellFormed_encode_of_decodePhase h
  | ledMode =>
    simp only [decode] at h
    split_ifs at h with himage
    subst himage
    exact wellFormed_encode_of_decodeLedMode h
  | debounce =>
    simp only [decode] at h
    split_ifs at h with himage
    subst himage
    exact wellFormed_encode_of_decodeDebounce h
  | faCmd =>
    simp only [decode] at h
    split_ifs at h with himage harg
    obtain rfl := not_not.mp himage
    subst harg
    exact wellFormed_encode_of_decodeFaCmd h
  | muxAddr => exact wellFormed_encode_of_decode_muxAddr h
  | stIdx => exact wellFormed_encode_of_decode_stIdx h
  | archReq => exact wellFormed_encode_of_decode_archReq h
  | srLatch => exact wellFormed_encode_of_decode_srLatch h

/-- Settles O3: each of the seven words is the encoding of the event it is said to be. -/
theorem specExampleWordsDecode : Obligations.SpecExampleWordsDecode :=
  ⟨encodeThenDecode .ctl rfl, encodeThenDecode .tick rfl, encodeThenDecode (.sample true false) rfl,
    encodeThenDecode (.sample false true) rfl,
    encodeThenDecode (.rsp { status := .ok, flag := true, size := 2097152, image := none }) rfl,
    encodeThenDecode (.rsp { status := .noChipDetected, flag := false, size := 0, image := none }) rfl,
    encodeThenDecode (.reset 0 true) rfl⟩

end Sys2Proof
end

section
/-! Reserved codes and non-zero zero fields are refused by name (30_encoding R95, R98). -/

namespace Sys2Proof.Machine

theorem step_withNext_of_decode_error {s : State} {u : Stimulus} {e : DecodeError} (h : decode u = .error e) :
    step (s.withNext u) = .refused (.illFormed e) :=
  step_of_decode_error (fetch_of_stim_cons (s := s.withNext u) rfl ▸ h)

end Sys2Proof.Machine

namespace Sys2Proof

open Machine

theorem decodePlain_of_nonZero {p : Prop} [Decidable p] (h : ¬ p) (i : Instr) :
    decodePlain (decide p) none i = .error .nonZeroField := by
  rw [decide_eq_false h]
  rfl

theorem decodePhase_of_reserved {w : StimWord} (hlo : 12 ≤ w.toNat) (hhi : w.toNat ≤ 15) (arg : StimWord)
    (image : Option (List Byte)) : decodePhase w arg image = .error .reservedPhase := by
  have hlt : w.toNat < 2 ^ 4 := Nat.lt_succ_of_le hhi
  have hcode : Phase.ofCode (w.setWidth 4) = none := Phase.ofCode_eq_none (by rwa [toNat_setWidth_of_lt hlt])
  simp only [decodePhase, highBitsZero_iff.mpr hlt, hcode, if_true]

theorem decodeLedMode_of_reserved {w : StimWord} (hlo : 5 ≤ w.toNat) (hhi : w.toNat ≤ 7) (arg : StimWord) :
    decodeLedMode w arg = .error .reservedLedMode := by
  have hlt : w.toNat < 2 ^ 3 := Nat.lt_succ_of_le hhi
  have hcode : LedMode.ofCode (w.setWidth 3) = none := LedMode.ofCode_eq_none (by rwa [toNat_setWidth_of_lt hlt])
  simp only [decodeLedMode, highBitsZero_iff.mpr hlt, hcode, if_true]

theorem decodeFaCmd_of_reserved {w : StimWord} (hlo : 5 ≤ w.toNat) (hhi : w.toNat ≤ 7) :
    decodeFaCmd w = .error .reservedCommand := by
  have hlt : w.toNat < 2 ^ 3 := Nat.lt_succ_of_le hhi
  have hcode : FaCmd.ofCode (w.setWidth 3) = none := FaCmd.ofCode_eq_none (by rwa [toNat_setWidth_of_lt hlt])
  simp only [decodeFaCmd, highBitsZero_iff.mpr hlt, hcode, if_true]

/-- Settles O4: a step refuses what the decoder refuses, and the decoder goes by the kind of the word and by the code. -/
theorem reservedCodesAreRefused : Obligations.ReservedCodesAreRefused := by
  intro s w arg image
  refine ⟨fun hlo hhi => ?kind, fun hk hlow => ?ctlOrTick, fun hk hfields => ?sample, fun hk haux => ?reset,
    fun hlo hhi => decodePhase_of_reserved hlo hhi arg image, fun hlo hhi => decodeLedMode_of_reserved hlo hhi arg, ?command⟩
  case kind => exact step_withNext_of_decode_error (decodeWord_of_kind_reserved hlo hhi image)
  case ctlOrTick =>
    apply step_withNext_of_decode_error
    rcases Nat.le_one_iff_eq_zero_or_eq_one.mp hk with hk | hk
    · exact (decodeWord_of_kind_zero hk none).trans (decodePlain_of_nonZero hlow _)
    · exact (decodeWord_of_kind_one hk none).trans (decodePlain_of_nonZero hlow _)
  case sample =>
    apply step_withNext_of_decode_error
    exact (decodeWord_of_kind_two hk none).trans (decodePlain_of_nonZero (not_and_or.mpr hfields) _)
  case reset =>
    apply step_withNext_of_decode_error
    exact (decodeWord_of_kind_fifteen hk none).trans (decodePlain_of_nonZero haux _)
  case command =>
    rintro (hzero | ⟨hlo, hhi⟩)
    · obtain rfl : w = 0 := BitVec.eq_of_toNat_eq hzero
      rfl
    · exact decodeFaCmd_of_reserved hlo hhi

end Sys2Proof
end

section
/-! The packed record of the status port: its fields, and the way back (30_encoding R81 to R85). -/

namespace Sys2Proof.Machine

@[simp] theorem Presence.ofCode_code (p : Presence) : Presence.ofCode p.code = p := by cases p <;> rfl
@[simp] theorem SizeMatch.ofCode_code (m : SizeMatch) : SizeMatch.ofCode m.code = some m := by cases m <;> rfl
@[simp] theorem OpResult.ofCode_code (r : OpResult) : OpResult.ofCode r.code = some r := by cases r <;> rfl

@[simp] theorem Presence.code_ofCode (c : BitVec 1) : (Presence.ofCode c).code = c := by
  revert c
  decide

theorem SizeMatch.code_of_ofCode {c : BitVec 2} {m : SizeMatch} (h : SizeMatch.ofCode c = some m) : m.code = c := by
  revert c m
  decide

theorem OpResult.code_of_ofCode {c : BitVec 3} {r : OpResult} (h : OpResult.ofCode c = some r) : r.code = c := by
  revert c r
  decide

/-! ### The four fields (30_encoding R85) -/

@[simp] theorem packRecord_presence (r : SlotState) : (packRecord r).extractLsb' 8 1 = r.presence.code := by
  rw [packRecord, BitVec.extractLsb'_append_eq_of_le (by decide), BitVec.extractLsb'_append_eq_of_le (by decide)]
  exact BitVec.extractLsb'_append_eq_left

@[simp] theorem packRecord_sizeMatch (r : SlotState) : (packRecord r).extractLsb' 6 2 = r.sizeMatch.code := by
  rw [packRecord, BitVec.extractLsb'_append_eq_of_le (by decide), BitVec.extractLsb'_append_eq_of_le (by decide)]
  exact BitVec.extractLsb'_append_eq_right

@[simp] theorem packRecord_lastOpResult (r : SlotState) : (packRecord r).extractLsb' 3 3 = r.lastOpResult.code := by
  rw [packRecord, BitVec.extractLsb'_append_eq_of_le (by decide)]
  exact BitVec.extractLsb'_append_eq_right

@[simp] theorem packRecord_ledMode (r : SlotState) : (packRecord r).extractLsb' 0 3 = r.ledMode.code := by
  rw [packRecord]
  exact BitVec.extractLsb'_append_eq_right

/-- A packed word is the four fields it is cut into. -/
theorem recordFields_append (w : BitVec 9) :
    w.extractLsb' 8 1 ++ w.extractLsb' 6 2 ++ w.extractLsb' 3 3 ++ w.extractLsb' 0 3 = w := by
  rw [BitVec.extractLsb'_append_extractLsb'_eq_extractLsb', BitVec.extractLsb'_append_extractLsb'_eq_extractLsb',
    BitVec.extractLsb'_append_extractLsb'] <;> rfl

/-! ### Packing and unpacking -/

theorem unpackRecord_packRecord (r : SlotState) : unpackRecord (packRecord r) = some r := by
  simp only [unpackRecord, packRecord_presence, packRecord_sizeMatch, packRecord_lastOpResult, packRecord_ledMode,
    Presence.ofCode_code, SizeMatch.ofCode_code, OpResult.ofCode_code, LedMode.ofCode_code]

theorem packRecord_of_unpackRecord {w : BitVec 9} {r : SlotState} (h : unpackRecord w = some r) : packRecord r = w := by
  unfold unpackRecord at h
  split at h
  next m o l hm ho hl =>
    cases h
    rw [packRecord, Presence.code_ofCode, SizeMatch.code_of_ofCode hm, OpResult.code_of_ofCode ho, LedMode.code_of_ofCode hl,
      recordFields_append]
  next => cases h

end Sys2Proof.Machine

namespace Sys2Proof

open Machine

/-- Settles O5: each field is cut back out of the packed word, each code names one value, and the examples are computed. -/
theorem packedRecordFormat : Obligations.PackedRecordFormat :=
  ⟨fun r => ⟨packRecord_presence r, packRecord_sizeMatch r, packRecord_lastOpResult r, packRecord_ledMode r,
      unpackRecord_packRecord r⟩,
    fun _ _ h => packRecord_of_unpackRecord h, rfl, rfl, rfl, rfl, rfl⟩

end Sys2Proof
end

section
/-! The slot addresser: what SELECT does on either side of its range check (40 R110 to R112), and why no run fails it (R113). -/

namespace Sys2Proof.Machine

/-! ### SELECT by itself -/

theorem selectThen_of_le {s : State} {n : Nat} {k : State → Host.Outcome State Fault Refusal} (h : n ≤ 15) :
    selectThen s n k = k (s.withCtl { s.ctl with muxAddr := BitVec.ofNat 4 n }) := if_neg (Nat.not_lt.mpr h)

theorem selectThen_of_gt {s : State} {n : Nat} {k : State → Host.Outcome State Fault Refusal} (h : 15 < n) :
    selectThen s n k = .next (s.withCtl (fatalRegs s.ctl .addressOutOfRange)) := if_pos h

theorem execSelect_of_running {s : State} (hp : s.ctl.phase ≠ .fatal) (n : BitVec 5) :
    exec (.select n) s = selectThen s.quiet n.toNat .next :=
  whileRunning_of_ne (k := fun u => selectThen u n.toNat .next) hp

/-- An index that names a slot is put on the address lines, and nothing else is written (40 R110). -/
theorem execSelect_of_le {s : State} {n : BitVec 5} (hp : s.ctl.phase ≠ .fatal) (hn : n.toNat ≤ 15) :
    exec (.select n) s = .next (s.quiet.withCtl { s.ctl with muxAddr := n.setWidth 4 }) := by
  rw [execSelect_of_running hp, selectThen_of_le hn, BitVec.ofNat_toNat, State.quiet_ctl]

/-- Selecting the slot that is selected already leaves the registers as they were (40 R111). -/
theorem execSelect_of_selected {s : State} {n : BitVec 5} (hp : s.ctl.phase ≠ .fatal) (h : s.ctl.muxAddr.toNat = n.toNat) :
    exec (.select n) s = .next s.quiet := by
  have hn : n.toNat ≤ 15 := h ▸ Nat.le_of_lt_succ s.ctl.muxAddr.isLt
  have haddr : n.setWidth 4 = s.ctl.muxAddr := by bv_omega
  rw [execSelect_of_le hp hn, haddr]
  rfl

/-- A larger index halts the engine and leaves the address lines as they were (40 R112). -/
theorem execSelect_of_gt {s : State} {n : BitVec 5} (hp : s.ctl.phase ≠ .fatal) (hn : 15 < n.toNat) :
    exec (.select n) s = .next (s.quiet.withCtl (fatalRegs s.ctl .addressOutOfRange)) := by
  rw [execSelect_of_running hp, selectThen_of_gt hn, State.quiet_ctl]

/-! ### The slot address along a run -/

/-- CTL is the one event but RESET that changes the slot address (40 R113). -/
theorem exec_muxAddr_of_ne_ctl {i : Instr} {s t : State} (hi : i.isEvent = true) (hr : notReset i = true) (hc : i ≠ .ctl)
    (h : exec i s = .next t) : t.ctl.muxAddr = s.ctl.muxAddr := by
  rcases isEvent_cases hi with ⟨dip, resOk, rfl⟩ | rfl | rfl | ⟨rC, rW, rfl⟩ | ⟨r, rfl⟩
  · exact absurd hr Bool.false_ne_true
  · exact absurd rfl hc
  · rw [(execTick_writes h).1]
  · obtain ⟨-, -, hctl, -⟩ := execSample_writes h
    rw [hctl]
  · exact execRsp_muxAddr h

/-- An event but RESET that changes the slot address is the CTL of SELECT, and where `cur` names a slot it writes `cur` (40 R113). -/
theorem exec_muxAddr_changed {i : Instr} {s t : State} (hi : i.isEvent = true) (hr : notReset i = true)
    (hcur : s.ctl.cur.toNat ≤ 15) (h : exec i s = .next t) (hne : t.ctl.muxAddr ≠ s.ctl.muxAddr) :
    i = .ctl ∧ s.ctl.phase = .select ∧ t.ctl.muxAddr.toNat = s.ctl.cur.toNat := by
  obtain rfl : i = .ctl := not_not.mp fun hc => hne (exec_muxAddr_of_ne_ctl hi hr hc h)
  have hp : s.ctl.phase = .select := not_not.mp fun hp => hne (execCtl_muxAddr hp h)
  exact ⟨rfl, hp, (settling_of_select hp hcur h).muxAddr⟩

end Sys2Proof.Machine

namespace Sys2Proof

open Machine

/-- The one code but `ok` that the registers hold is ResourceBusy, which RESET raises (10_state R36, 40 R113). -/
theorem CtlInv.fatalCode_ne_addressOutOfRange {c : CtlRegs} (h : CtlInv c) : c.fatalCode ≠ .addressOutOfRange := by
  rw [h.fatalCode]
  split <;> decide

/-- Settles O13: the bound on `cur` and the code are part of the invariant, which every event keeps, and the bound makes SELECT's range
check pass. -/
theorem addressErrorIsUnreachable : Obligations.AddressErrorIsUnreachable := by
  intro t ht
  have hinv := engineInv_of_reachable ht
  refine ⟨hinv.ctl.cur_le, hinv.ctl.fatalCode_ne_addressOutOfRange, fun i u hi hr h => ⟨?_, ?_⟩⟩
  · exact (engineInv_exec hi hinv h).ctl.fatalCode_ne_addressOutOfRange
  · exact exec_muxAddr_changed hi hr hinv.ctl.cur_le h

/-- Settles O51: the code of an index is its own encoding, and the range check splits the effect. -/
theorem selectResult : Obligations.SelectResult := by
  refine ⟨fun n hn => decode_encode_select (Nat.lt_succ_of_le hn), fun s n hp => ⟨fun hn => ⟨?_, ?_⟩, ?_⟩⟩
  · exact execSelect_of_le hp hn
  · exact execSelect_of_selected hp
  · exact execSelect_of_gt hp

end Sys2Proof
end

section
/-! The lamp matrix: what RENDER makes of the latch, and why rendering what is shown changes no register (41 R120, R124). -/

namespace Sys2Proof.Machine

/-- RENDER by itself: the whole latch is the pattern and pulses, and nothing else is written (41 R120). -/
theorem execRender_of_running {s : State} (hp : s.ctl.phase ≠ .fatal) (p : Pattern) :
    exec (.render p) s =
      .next { s with sched := { s.sched with ledVisible := p }, out := { OutPins.quiet with latch := true } } :=
  calc exec (.render p) s
      = .next (renderPattern s.quiet p) := whileRunning_of_ne (k := fun u => .next (renderPattern u p)) hp
    _ = .next { s with sched := { s.sched with ledVisible := p }, out := { OutPins.quiet with latch := true } } := by
      rw [renderPattern_eq]
      rfl

/-- Writing the latch with what it shows leaves the scheduler's registers as they were (41 R124). -/
theorem SchedRegs.ledVisible_eta {d : SchedRegs} {p : Pattern} (h : d.ledVisible = p) : { d with ledVisible := p } = d := by
  rw [← h]

end Sys2Proof.Machine

namespace Sys2Proof

open Machine

/-- Settles O28: the latch is the pattern bit by bit because it is the pattern as a whole, and a latch that shows it already is
written with its own value. -/
theorem renderResult : Obligations.RenderResult := by
  intro s p hp
  refine ⟨_, execRender_of_running hp p, rfl, fun _ => rfl, fun hshown => ?_⟩
  have hsched : { s.sched with ledVisible := p } = s.sched := SchedRegs.ledVisible_eta hshown
  exact ⟨rfl, hsched, rfl, rfl⟩

end Sys2Proof
end

section
/-! The lamps: what each lamp-mode operation does to its slot, and what a TICK does to all sixteen (42 R130 to R142). -/

namespace Sys2Proof.Machine

/-! ### The lamp-mode operations by themselves -/

/-- Every lamp-mode operation is its mode's BLINK on the one slot (42 R132 to R137; log entry 8). -/
theorem exec_ledModeInstr (i : Slot) (m : LedMode) (s : State) :
    exec (ledModeInstr i m) s = whileRunning s fun u => .next (blinkSlot u i (blink m)) := by
  cases m <;> rfl

theorem exec_ledModeInstr_of_running {s : State} (hp : s.ctl.phase ≠ .fatal) (i : Slot) (m : LedMode) :
    exec (ledModeInstr i m) s = .next (blinkSlot s.quiet i (blink m)) := by
  rw [exec_ledModeInstr, whileRunning_of_ne hp]

theorem lampAt_blinkSlot (s : State) (i j : Slot) (f : LampPhase → LampPhase) :
    lampAt (blinkSlot s i f).sched j = if i = j then f (lampAt s.sched i) else lampAt s.sched j :=
  lampAt_set s.sched i j _

theorem onlyLamp_blinkSlot (s : State) (i : Slot) (f : LampPhase → LampPhase) :
    onlyLamp s (blinkSlot s.quiet i f) i (f (lampAt s.sched i)) := by
  refine ⟨?_, fun j hj => ?_, rfl⟩
  · rw [lampAt_blinkSlot, if_pos rfl, State.quiet_sched]
  · rw [lampAt_blinkSlot, if_neg (Ne.symm hj), State.quiet_sched]

/-- Outside FATAL a lamp-mode operation steps its own slot's phase counter by its mode, and nothing else. -/
theorem exec_ledModeInstr_onlyLamp {s : State} (hp : s.ctl.phase ≠ .fatal) (i : Slot) (m : LedMode) :
    ∃ t, exec (ledModeInstr i m) s = .next t ∧ onlyLamp s t i (blink m (lampAt s.sched i)) :=
  ⟨_, exec_ledModeInstr_of_running hp i m, onlyLamp_blinkSlot s i (blink m)⟩

/-! ### TICK -/

@[simp] theorem lampTick_ctl (s : State) : (lampTick s).ctl = s.ctl := by rw [lampTick_eq]

@[simp] theorem lampTick_bootDone (s : State) : (lampTick s).sched.bootDone = s.sched.bootDone := by rw [lampTick_eq]

@[simp] theorem lampAt_lampTick (s : State) (i : Slot) :
    lampAt (lampTick s).sched i = blink (recordAt s.ctl i).ledMode (lampAt s.sched i) := by
  rw [lampTick_eq]
  simp [lampAt, tickedLamps]

/-- The lamps show the new lamp bits (42 R142). -/
theorem ledVisible_lampTick (s : State) (i : Slot) :
    (lampTick s).sched.ledVisible[i] = (lampAt (lampTick s).sched i).lvl := by
  rw [lampTick_eq]
  exact lampPattern_get _ i

/-- No event but TICK and RESET writes the scheduler's registers (10_state R46). -/
theorem exec_sched_of_ne_tick {i : Instr} {s t : State} (hi : i.isEvent = true) (hr : notReset i = true) (ht : i ≠ .tick)
    (h : exec i s = .next t) : t.sched = s.sched := by
  rcases isEvent_cases hi with ⟨dip, resOk, rfl⟩ | rfl | rfl | ⟨rC, rW, rfl⟩ | ⟨r, rfl⟩
  · exact absurd hr Bool.false_ne_true
  · exact (controllerFrame_execCtl h).sched
  · exact absurd rfl ht
  · exact (execSample_writes h).1
  · exact (controllerFrame_execRsp h).sched

/-! ### TICK as sixteen operations -/

/-- The phase counters after one BLINK of mode `m j` on each slot `j` of `is`. -/
def blinkedLamps (m : Slot → LedMode) (is : List Slot) (d : SchedRegs) : Vector LampPhase 16 :=
  Vector.ofFn fun j : Slot => if j ∈ is then blink (m j) (lampAt d j) else lampAt d j

theorem blinkedLamps_nil (m : Slot → LedMode) (d : SchedRegs) : blinkedLamps m [] d = d.lamp := by
  ext j hj
  simp [blinkedLamps, lampAt]

/-- The first slot may as well be stepped before the others, where it is not among them. -/
theorem blinkedLamps_cons {m : Slot → LedMode} {i : Slot} {is : List Slot} (hi : i ∉ is) (s : State) :
    blinkedLamps m (i :: is) s.sched = blinkedLamps m is (blinkSlot s i (blink (m i))).sched := by
  unfold blinkedLamps
  congr 1
  funext j
  rw [lampAt_blinkSlot]
  by_cases hij : i = j
  · subst hij
    simp [hi]
  · simp [hij, Ne.symm hij]

/-- TICK is BLINK on every slot, by its own lamp mode (42 R130). -/
theorem tickedLamps_eq_blinkedLamps (s : State) :
    tickedLamps s = blinkedLamps (fun i => (recordAt s.ctl i).ledMode) (List.finRange 16) s.sched := by
  simp [tickedLamps, blinkedLamps]

/-- Lamp-mode operations on different slots, then RENDER: each slot is stepped once, and the latch is the pattern. -/
theorem runInstrs_ledModeInstrs_render (m : Slot → LedMode) (p : Pattern) {is : List Slot} {s : State} (his : is.Nodup)
    (hp : s.ctl.phase ≠ .fatal) :
    runInstrs (is.map (fun i => ledModeInstr i (m i)) ++ [.render p]) s =
      .next { s with sched := { s.sched with lamp := blinkedLamps m is s.sched, ledVisible := p },
                     out := { OutPins.quiet with latch := true } } := by
  induction is generalizing s with
  | nil =>
    rw [blinkedLamps_nil]
    exact runInstrs_cons (execRender_of_running hp p)
  | cons i is ih =>
    obtain ⟨hi, his⟩ := List.nodup_cons.mp his
    rw [List.map_cons, List.cons_append, runInstrs_cons (exec_ledModeInstr_of_running hp i (m i)),
      ih (s := blinkSlot s.quiet i (blink (m i))) his hp, ← blinkedLamps_cons hi]
    rfl

end Sys2Proof.Machine

namespace Sys2Proof

open Machine

/-- Settles O15: a normal TICK renders the lamp bits it makes, and the scheduler's registers are its own. -/
theorem lampsShowLampBits : Obligations.LampsShowLampBits := by
  refine fun s t => ⟨fun hb hp h i => ?_, fun i hi hne hr h => ?_⟩
  · rw [execTick_of_booted hp hb] at h
    cases h
    exact ledVisible_lampTick s.quiet i
  · have hsched := exec_sched_of_ne_tick hi hr hne h
    exact ⟨by rw [hsched], fun j => by rw [hsched]⟩

/-- Settles O21: the state after a normal TICK is known as a whole, and BLINK goes by the mode. -/
theorem tickResult : Obligations.TickResult := by
  intro s hp hb
  refine ⟨_, execTick_of_booted hp hb, fun i => ?_, ledVisible_lampTick s.quiet, ?_⟩
  · rw [lampAt_lampTick, State.quiet_ctl, State.quiet_sched]
    cases (recordAt s.ctl i).ledMode <;> rfl
  · rw [lampTick_eq]
    rfl

/-- Settles O22: `boot_ctr` is below BOOT_LEN or it is not. -/
theorem bootTickResult : Obligations.BootTickResult := by
  intro s hp hb
  rw [execTick_of_booting hp hb]
  rcases bootTick_cases s.quiet with ⟨hlt, e⟩ | ⟨hle, e⟩ <;> rw [e]
  · exact ⟨fun _ => rfl, fun h16 => absurd hlt (Nat.not_lt.mpr h16.ge)⟩
  · exact ⟨fun hlt => absurd hlt (Nat.not_lt.mpr hle), fun _ => rfl⟩

/-- Settles O24: the three modes that do not count. -/
theorem steadyBlinkOperations : Obligations.SteadyBlinkOperations := by
  intro s i
  refine ⟨decode_encodeLedMode .off i, decode_encodeLedMode .on i, decode_encodeLedMode .dataActivity i, fun hp => ⟨?_, ?_, ?_⟩⟩
  · exact exec_ledModeInstr_onlyLamp hp i .off
  · exact exec_ledModeInstr_onlyLamp hp i .on
  · exact exec_ledModeInstr_onlyLamp hp i .dataActivity

/-- Settles O25: the two modes that count. -/
theorem blinkingOperations : Obligations.BlinkingOperations := by
  intro s i
  refine ⟨decode_encodeLedMode .slowBlink i, decode_encodeLedMode .fastBlink i, fun hp => ⟨?_, ?_⟩⟩
  · exact exec_ledModeInstr_onlyLamp hp i .slowBlink
  · exact exec_ledModeInstr_onlyLamp hp i .fastBlink

/-- Settles O26: the slots are stepped one by one, each once, and the pattern rendered is that of the TICK. -/
theorem tickIsItsOperations : Obligations.TickIsItsOperations := by
  intro s t hp hb h
  rw [execTick_of_booted hp hb, lampTick_eq] at h
  cases h
  rw [runInstrs_ledModeInstrs_render _ _ (List.nodup_finRange 16) hp, ← tickedLamps_eq_blinkedLamps]
  rfl

end Sys2Proof
end

section
/-! Blinking over many ticks: how often a slot left in one mode toggles (42 R141). -/

namespace Sys2Proof.Machine

/-! ### One slot over many BLINKs -/

/-- `dataActivity` is blinking with period 1 (42 R137). -/
theorem blinkData_eq_blinkEvery_one : blinkData = blinkEvery 1 := by
  funext p
  exact (if_pos (Nat.le_add_left 1 _)).symm

/-- What `k` BLINKs of period `n` make of a phase counter `p` that stood at 0: the rest of `k` is counted, the quotient toggled. -/
structure BlinkedFrom (p : LampPhase) (n k : Nat) (q : LampPhase) : Prop where
  cnt : q.cnt.toNat = k % n
  lvl : q.lvl = (p.lvl != decide (k / n % 2 = 1))

theorem BlinkedFrom.next {p q : LampPhase} {n k : Nat} (hn : 0 < n) (hn' : n ≤ 2 ^ 8) (h : BlinkedFrom p n k q) :
    BlinkedFrom p n (k + 1) (blinkEvery n q) := by
  have hk : k % n + n * (k / n) = k := Nat.mod_add_div k n
  have hlt : k % n < n := Nat.mod_lt k hn
  have hcnt := h.cnt
  rcases blinkEvery_cases n q with ⟨hge, e⟩ | ⟨hcounts, e⟩ <;> rw [e]
  · obtain ⟨hdiv, hmod⟩ : (k + 1) / n = k / n + 1 ∧ (k + 1) % n = 0 := by
      rw [Nat.div_mod_unique hn, Nat.mul_succ]
      omega
    refine ⟨hmod.symm, ?_⟩
    have hparity : decide ((k / n + 1) % 2 = 1) = !decide (k / n % 2 = 1) := by
      rw [← decide_not, decide_eq_decide]
      omega
    rw [hdiv, hparity, Bool.bne_not, h.lvl]
  · obtain ⟨hdiv, hmod⟩ : (k + 1) / n = k / n ∧ (k + 1) % n = k % n + 1 := by
      rw [Nat.div_mod_unique hn]
      omega
    refine ⟨?_, by rw [hdiv, h.lvl]⟩
    show (q.cnt + 1).toNat = (k + 1) % n
    bv_omega

theorem blinkedFrom_iterate {p : LampPhase} {n : Nat} (hn : 0 < n) (hn' : n ≤ 2 ^ 8) (hp : p.cnt = 0) (k : Nat) :
    BlinkedFrom p n k ((blinkEvery n)^[k] p) := by
  induction k with
  | zero => exact ⟨by simp [hp], by simp⟩
  | succ k ih =>
    rw [Function.iterate_succ_apply']
    exact ih.next hn hn'

/-! ### One slot over many TICKs -/

/-- TICKs change no lamp mode, so `k` of them are `k` BLINKs of one mode (42 R130). -/
theorem lampAt_runInstrs_scriptTicks {k : Nat} {s t : State} (hp : s.ctl.phase ≠ .fatal) (hb : s.sched.bootDone = true)
    (h : runInstrs (scriptTicks k) s = .next t) (i : Slot) :
    lampAt t.sched i = (blink (recordAt s.ctl i).ledMode)^[k] (lampAt s.sched i) := by
  induction k generalizing s with
  | zero => cases h; rfl
  | succ k ih =>
    obtain ⟨u, hu, hrest⟩ := runInstrs_cons_next h
    rw [execTick_of_booted hp hb] at hu
    cases hu
    have hctl : (lampTick s.quiet).ctl = s.ctl := lampTick_ctl s.quiet
    rw [ih (hctl ▸ hp) ((lampTick_bootDone s.quiet).trans hb) hrest, lampAt_lampTick, hctl, Function.iterate_succ_apply]
    rfl

end Sys2Proof.Machine

namespace Sys2Proof

open Machine

/-- Settles O27: the ticks iterate BLINK of the slot's mode, and each of the three modes is blinking with its own period. -/
theorem blinkPeriods : Obligations.BlinkPeriods := by
  intro s t i k hp hb h0 h
  have hrun := lampAt_runInstrs_scriptTicks hp hb h i
  refine ⟨fun hm => ?slow, fun hm => ?fast, fun hm => ?data⟩
  case slow =>
    have hblinked := blinkedFrom_iterate (n := Config.nSlow) (by decide) (by decide) h0 k
    rw [hrun, hm]
    exact ⟨hblinked.cnt, hblinked.lvl⟩
  case fast =>
    have hblinked := blinkedFrom_iterate (n := Config.mFast) (by decide) (by decide) h0 k
    rw [hrun, hm]
    exact ⟨hblinked.cnt, hblinked.lvl⟩
  case data =>
    have hblinked := blinkedFrom_iterate (n := 1) (by decide) (by decide) h0 k
    have hmode : blink .dataActivity = blinkEvery 1 := blinkData_eq_blinkEvery_one
    rw [hrun, hm, hmode]
    exact ⟨BitVec.eq_of_toNat_eq (hblinked.cnt.trans (Nat.mod_one k)), by rw [hblinked.lvl, Nat.div_one]⟩

end Sys2Proof
end

section
/-! The ranges of `cur`, `cnt`, `boot_ctr` and `db_cnt`, which every operation keeps (40 R113, 42 R139, R140, 43 R161). -/

namespace Sys2Proof.Machine

/-- Every debounce operation is DEBOUNCE in its state, on the one button (43 R151 to R155; log entry 8). -/
theorem exec_debounceInstr (b : Button) (r : Bool) (d : DbState) (s : State) :
    exec (debounceInstr b r d) s =
      whileRunning s fun u => .next (debounceButton u b fun cnt => debounce { dbState := d, dbCnt := cnt } r) := by
  cases d <;> rfl

theorem selectedRegs_cur (c : CtlRegs) (n : BitVec 16) : (selectedRegs c n).cur = c.cur := by
  rcases selectedRegs_cases c n with ⟨-, e⟩ | ⟨-, e⟩ <;> rw [e]
  rfl

theorem setCurRecord_cur (c : CtlRegs) (f : SlotState → SlotState) : (setCurRecord c f).cur = c.cur := by
  rw [setCurRecord_eq]

end Sys2Proof.Machine

namespace Sys2Proof

open Machine

/-! ### The debouncers -/

/-- A debouncer that agrees with its state counts less than D samples (43 R161). -/
theorem dbCnt_le_of_debouncerOk {d : Debouncer} (h : debouncerOk d = true) : d.dbCnt.toNat ≤ Config.debounceSamples - 1 := by
  unfold debouncerOk at h
  cases hd : d.dbState <;> simp only [hd, decide_eq_true_eq] at h
  case idle | pressedConfirmed => simp [h]
  case pressedPending | released => exact h.2

theorem dbCnt_debounce_le (d : Debouncer) (r : Bool) : (debounce d r).deb.dbCnt.toNat ≤ Config.debounceSamples - 1 :=
  dbCnt_le_of_debouncerOk (debouncerOk_debounce d r)

/-! ### Register updates -/

theorem ranges_quiet {s : State} (h : Ranges s) : Ranges s.quiet := { h with }

/-- Of the registers in range, `cur` is the Controller's, and the others are not. -/
theorem ranges_of_controllerFrame {s t : State} (h : Ranges s) (hf : ControllerFrame s t) (hcur : t.ctl.cur.toNat ≤ 15) : Ranges t where
  cur_le := hcur
  cnt_le := by rw [hf.sched]; exact h.cnt_le
  bootCtr_le := by rw [hf.sched]; exact h.bootCtr_le
  check_le := by rw [hf.samp]; exact h.check_le
  write_le := by rw [hf.samp]; exact h.write_le

theorem ranges_withCtl {s : State} {c : CtlRegs} (h : Ranges s) (hcur : c.cur = s.ctl.cur) : Ranges (s.withCtl c) :=
  ranges_of_controllerFrame h (controllerFrame_withCtl s c) (by rw [State.withCtl_ctl, hcur]; exact h.cur_le)

/-- An agent's operation keeps the ranges that its running part keeps; in FATAL it does nothing. -/
theorem ranges_running {s t : State} {f : State → State} (hf : ∀ u, Ranges u → Ranges (f u)) (h : Ranges s)
    (ht : whileRunning s (fun u => .next (f u)) = .next t) : Ranges t := by
  rcases whileRunning_next ht with ⟨-, rfl⟩ | ⟨-, hk⟩
  · exact ranges_quiet h
  · cases hk
    exact hf _ (ranges_quiet h)

theorem ranges_waiting {s t : State} (h : Ranges s) (ht : whileRunning s (fun u => .next u) = .next t) : Ranges t :=
  ranges_running (f := fun u => u) (fun _ hu => hu) h ht

/-! ### The scheduler and the sampler -/

theorem ranges_renderPattern {s : State} (p : Pattern) (h : Ranges s) : Ranges (renderPattern s p) := { h with }

theorem ranges_blinkSlot {s : State} (i : Slot) (m : LedMode) (h : Ranges s) : Ranges (blinkSlot s i (blink m)) where
  cur_le := h.cur_le
  cnt_le j := by
    rw [lampAt_blinkSlot]
    split
    · exact Nat.le_pred_of_lt (blink_cnt_lt m _)
    · exact h.cnt_le j
  bootCtr_le := h.bootCtr_le
  check_le := h.check_le
  write_le := h.write_le

theorem ranges_lampTick {s : State} (h : Ranges s) : Ranges (lampTick s) := by
  have hcnt : ∀ i : Slot, (lampAt (lampTick s).sched i).cnt.toNat ≤ Config.nSlow - 1 := fun i => by
    rw [lampAt_lampTick]
    exact Nat.le_pred_of_lt (blink_cnt_lt _ _)
  rw [lampTick_eq] at hcnt ⊢
  exact { h with cnt_le := hcnt }

/-- The animation counts to BOOT_LEN and no further (42 R140). -/
theorem ranges_bootTick {s : State} (h : Ranges s) : Ranges (bootTick s) := by
  rcases bootTick_cases s with ⟨hlt, e⟩ | ⟨-, e⟩ <;> rw [e]
  · have hctr : (s.sched.bootCtr + 1).toNat ≤ Config.bootLen := by
      simp only [Config.bootLen] at hlt ⊢
      bv_omega
    exact { h with bootCtr_le := hctr }
  · exact { h with }

theorem ranges_execTick {s t : State} (h : Ranges s) (ht : exec .tick s = .next t) : Ranges t := by
  rcases execTick_next ht with ⟨-, rfl⟩ | ⟨-, -, rfl⟩ | ⟨-, -, rfl⟩
  · exact ranges_quiet h
  · exact ranges_lampTick (ranges_quiet h)
  · exact ranges_bootTick (ranges_quiet h)

theorem ranges_sampleButtons {s : State} (rC rW : Bool) (h : Ranges s) : Ranges (sampleButtons rC rW s) := by
  rw [sampleButtons_eq, handoff_eq]
  exact { h with check_le := dbCnt_debounce_le _ _, write_le := dbCnt_debounce_le _ _ }

theorem ranges_execReset {dip : BitVec 32} {resOk : Bool} {s t : State} (ht : exec (.reset dip resOk) s = .next t) : Ranges t := by
  rcases execReset_next ht with ⟨-, rfl⟩ | ⟨-, rfl⟩ <;>
    exact ⟨Nat.zero_le _, schedInv_reset.cnt_le, Nat.zero_le _, Nat.zero_le _, Nat.zero_le _⟩

/-- Every lamp-mode operation by itself keeps the ranges. -/
theorem ranges_ledModeInstr {s t : State} (i : Slot) (m : LedMode) (h : Ranges s) (ht : exec (ledModeInstr i m) s = .next t) :
    Ranges t := by
  rw [exec_ledModeInstr] at ht
  exact ranges_running (fun _ hu => ranges_blinkSlot i m hu) h ht

/-- Every debounce operation by itself keeps the ranges. -/
theorem ranges_debounceInstr {s t : State} (b : Button) (r : Bool) (d : DbState) (h : Ranges s)
    (ht : exec (debounceInstr b r d) s = .next t) : Ranges t := by
  rw [exec_debounceInstr] at ht
  refine ranges_running (fun u hu => ?_) h ht
  cases b with
  | check => exact { hu with check_le := dbCnt_debounce_le _ _ }
  | write => exact { hu with write_le := dbCnt_debounce_le _ _ }

/-! ### The Controller -/

theorem ranges_issueCommand {s : State} (cmd : FaCmd) (h : Ranges s) : Ranges (issueCommand s cmd) := { h with }

theorem ranges_emitStore {s : State} (h : Ranges s) : Ranges (emitStore s) := { h with }

theorem ranges_selectThen {s t : State} {n : Nat} {k : State → Host.Outcome State Fault Refusal}
    (hk : ∀ u v, Ranges u → k u = .next v → Ranges v) (h : Ranges s) (ht : selectThen s n k = .next t) : Ranges t := by
  rcases selectThen_next ht with ⟨-, rfl⟩ | ⟨-, hkt⟩
  · exact ranges_withCtl h rfl
  · exact hk _ t (ranges_withCtl (c := { s.ctl with muxAddr := BitVec.ofNat 4 n }) h rfl) hkt

/-- SELECT by itself keeps the ranges: it writes the address lines, or halts the engine (40 R110, R112). -/
theorem ranges_select {s t : State} {n : BitVec 5} (h : Ranges s) (ht : exec (.select n) s = .next t) : Ranges t := by
  rcases whileRunning_next (k := fun u => selectThen u n.toNat .next) ht with ⟨-, rfl⟩ | ⟨-, hk⟩
  · exact ranges_quiet h
  · exact ranges_selectThen (fun u v hu hv => by cases hv; exact hu) (ranges_quiet h) hk

theorem ranges_bootOnCtl {s : State} (h : Ranges s) : Ranges (bootOnCtl s) := by
  unfold bootOnCtl
  split
  · exact ranges_withCtl h rfl
  · exact h

/-- START begins with slot 0 (44 R176). -/
theorem ranges_startOnCtl {s : State} (h : Ranges s) : Ranges (startOnCtl s) :=
  ranges_of_controllerFrame h (controllerFrame_withCtl s _) (Nat.zero_le 15)

theorem ranges_selectOnCtl {s t : State} (h : Ranges s) (ht : selectOnCtl s = .next t) : Ranges t := by
  refine ranges_selectThen (fun u v hu hv => ?_) h ht
  cases hv
  exact ranges_withCtl hu (selectedRegs_cur _ _)

theorem ranges_settleOnCtl {s : State} (h : Ranges s) : Ranges (settleOnCtl s) := by
  rcases settleOnCtl_cases s with ⟨-, e⟩ | ⟨cmd, -, e⟩ <;> rw [e]
  · exact ranges_withCtl h rfl
  · exact ranges_issueCommand cmd h

theorem ranges_archiveOnCtl {s : State} (h : Ranges s) : Ranges (archiveOnCtl s) := ranges_withCtl (ranges_emitStore h) rfl

/-- NEXT moves on from a slot below 15 only (44 R181). -/
theorem ranges_nextOnCtl {s : State} (h : Ranges s) : Ranges (nextOnCtl s) := by
  rcases nextOnCtl_cases s with ⟨-, e⟩ | ⟨hne, p, -, e⟩ <;> rw [e]
  · exact ranges_withCtl h rfl
  · have hcur := h.cur_le
    refine ranges_of_controllerFrame h (controllerFrame_withCtl s _) ?_
    show (curOfNat (s.ctl.cur.toNat + 1)).toNat ≤ 15
    rw [curOfNat_toNat (by omega)]
    omega

theorem ranges_targetDetected {s : State} (r : Rsp) (h : Ranges s) : Ranges (targetDetected r s) := by
  rw [targetDetected_eq]
  exact ranges_withCtl h (setCurRecord_cur _ _)

theorem ranges_refDetectedInCheck {s : State} (r : Rsp) (h : Ranges s) : Ranges (refDetectedInCheck r s) := by
  rcases refDetectedInCheck_cases r s with ⟨-, e⟩ | ⟨-, e⟩ <;> rw [e] <;> exact ranges_withCtl h rfl

theorem ranges_refDetectedInWrite {s : State} (r : Rsp) (h : Ranges s) : Ranges (refDetectedInWrite r s) := by
  rcases refDetectedInWrite_cases r s with ⟨-, e⟩ | ⟨-, e⟩ <;> rw [e]
  · exact ranges_issueCommand _ (ranges_withCtl h rfl)
  · exact ranges_withCtl h rfl

theorem ranges_detectOnRsp {s : State} (r : Rsp) (h : Ranges s) : Ranges (detectOnRsp r s) := by
  rcases detectOnRsp_cases r s with ⟨-, e⟩ | ⟨-, -, e⟩ | ⟨-, -, e⟩ | ⟨-, -, e⟩ <;> rw [e]
  · exact ranges_targetDetected r h
  · exact ranges_refDetectedInCheck r h
  · exact ranges_refDetectedInWrite r h
  · exact h

theorem ranges_readOnRsp {s : State} (r : Rsp) (h : Ranges s) : Ranges (readOnRsp r s) := by
  rcases readOnRsp_cases r s with ⟨-, e⟩ | ⟨-, e⟩ <;> rw [e]
  · exact { h with }
  · exact ranges_withCtl h rfl

theorem ranges_attemptDone {s : State} (k : OpResult) (h : Ranges s) : Ranges (attemptDone k s) := by
  rw [attemptDone_eq]
  exact ranges_withCtl h (setCurRecord_cur _ _)

theorem ranges_writeOnRsp {s : State} (r : Rsp) (h : Ranges s) : Ranges (writeOnRsp r s) := by
  rcases writeOnRsp_cases r s with ⟨-, e⟩ | ⟨-, e⟩ <;> rw [e]
  · exact ranges_issueCommand _ h
  · exact ranges_attemptDone _ h

/-- What a phase does on a CTL keeps the ranges. -/
theorem ranges_phaseInstr_ctl {s t : State} (p : Phase) (h : Ranges s) (ht : exec (phaseInstr .ctl p) s = .next t) : Ranges t := by
  cases p with
  | boot => exact ranges_running (fun _ => ranges_bootOnCtl) h ht
  | start => exact ranges_running (fun _ => ranges_startOnCtl) h ht
  | select =>
    rcases whileRunning_next (k := selectOnCtl) ht with ⟨-, rfl⟩ | ⟨-, hk⟩
    · exact ranges_quiet h
    · exact ranges_selectOnCtl (ranges_quiet h) hk
  | settle => exact ranges_running (fun _ => ranges_settleOnCtl) h ht
  | archive => exact ranges_running (fun _ => ranges_archiveOnCtl) h ht
  | next => exact ranges_running (fun _ => ranges_nextOnCtl) h ht
  | fatal => cases ht; exact ranges_quiet h
  | idle | detect | read | write | verify => exact ranges_waiting h ht

/-- What a phase does on an answer keeps the ranges. -/
theorem ranges_phaseInstr_rsp {s t : State} (r : Rsp) (p : Phase) (h : Ranges s) (ht : exec (phaseInstr (.rsp r) p) s = .next t) :
    Ranges t := by
  cases p with
  | detect => exact ranges_running (fun _ => ranges_detectOnRsp r) h ht
  | read => exact ranges_running (fun _ => ranges_readOnRsp r) h ht
  | write => exact ranges_running (fun _ => ranges_writeOnRsp r) h ht
  | verify => exact ranges_running (fun _ => ranges_attemptDone _) h ht
  | fatal => cases ht; exact ranges_quiet h
  | boot | idle | start | select | settle | archive | next => exact ranges_waiting h ht

theorem ranges_phaseInstr {s t : State} (e : CtlEvent) (p : Phase) (h : Ranges s) (ht : exec (phaseInstr e p) s = .next t) :
    Ranges t := by
  cases e with
  | ctl => exact ranges_phaseInstr_ctl p h ht
  | rsp r => exact ranges_phaseInstr_rsp r p h ht

theorem ranges_execCtl {s t : State} (h : Ranges s) (ht : exec .ctl s = .next t) : Ranges t := by
  have hq := ranges_quiet h
  rcases execCtl_next_cases ht with ⟨-, rfl⟩ | ⟨-, rfl⟩ | ⟨-, hk⟩ | ⟨-, rfl⟩ | ⟨-, rfl⟩ | ⟨-, rfl⟩ | ⟨-, rfl⟩
  · exact ranges_bootOnCtl hq
  · exact ranges_startOnCtl hq
  · exact ranges_selectOnCtl hq hk
  · exact ranges_settleOnCtl hq
  · exact ranges_archiveOnCtl hq
  · exact ranges_nextOnCtl hq
  · exact hq

theorem ranges_execRsp {r : Rsp} {s t : State} (h : Ranges s) (ht : exec (.rsp r) s = .next t) : Ranges t := by
  have hq := ranges_quiet h
  rcases execRsp_next_cases ht with ⟨-, rfl⟩ | ⟨-, rfl⟩ | ⟨-, rfl⟩ | ⟨-, rfl⟩ | ⟨-, rfl⟩
  · exact ranges_detectOnRsp r hq
  · exact ranges_readOnRsp r hq
  · exact ranges_writeOnRsp r hq
  · exact ranges_attemptDone _ hq
  · exact hq

/-- Settles O14: both bounds are part of the invariant of a reachable state. -/
theorem counterRanges : Obligations.CounterRanges := by
  intro t h
  have hinv := engineInv_of_reachable h
  refine ⟨fun i => ?_, dbCnt_le_of_debouncerOk hinv.check, dbCnt_le_of_debouncerOk hinv.write⟩
  have hcnt : (lampAt t.sched i).cnt.toNat ≤ 24 := hinv.sched.cnt_le i
  exact ⟨hcnt, by omega⟩

/-- Settles O11: operation by operation, the twelve phase operations, the five lamp-mode operations and the four debounce operations
as one each. -/
theorem operationsKeepRanges : Obligations.OperationsKeepRanges := by
  intro i s t hs h
  cases i with
  | reset dip resOk => exact ranges_execReset h
  | ctl => exact ranges_execCtl hs h
  | tick => exact ranges_execTick hs h
  | sample rC rW => exact ranges_running (fun _ => ranges_sampleButtons rC rW) hs h
  | rsp r => exact ranges_execRsp hs h
  | phBoot e => exact ranges_phaseInstr e .boot hs h
  | phIdle e => exact ranges_phaseInstr e .idle hs h
  | phStart e => exact ranges_phaseInstr e .start hs h
  | phSelect e => exact ranges_phaseInstr e .select hs h
  | phSettle e => exact ranges_phaseInstr e .settle hs h
  | phDetect e => exact ranges_phaseInstr e .detect hs h
  | phRead e => exact ranges_phaseInstr e .read hs h
  | phArchive e => exact ranges_phaseInstr e .archive hs h
  | phWrite e => exact ranges_phaseInstr e .write hs h
  | phVerify e => exact ranges_phaseInstr e .verify hs h
  | phNext e => exact ranges_phaseInstr e .next hs h
  | phFatal e => exact ranges_phaseInstr e .fatal hs h
  | blOff k => exact ranges_ledModeInstr k .off hs h
  | blOn k => exact ranges_ledModeInstr k .on hs h
  | blSlow k => exact ranges_ledModeInstr k .slowBlink hs h
  | blFast k => exact ranges_ledModeInstr k .fastBlink hs h
  | blData k => exact ranges_ledModeInstr k .dataActivity hs h
  | dbIdle b r => exact ranges_debounceInstr b r .idle hs h
  | dbPend b r => exact ranges_debounceInstr b r .pressedPending hs h
  | dbConf b r => exact ranges_debounceInstr b r .pressedConfirmed hs h
  | dbRel b r => exact ranges_debounceInstr b r .released hs h
  | detect => exact ranges_running (fun _ => ranges_issueCommand .detect) hs h
  | read => exact ranges_running (fun _ => ranges_issueCommand .read) hs h
  | write => exact ranges_running (fun _ => ranges_issueCommand .write) hs h
  | verify => exact ranges_running (fun _ => ranges_issueCommand .verify) hs h
  | select n => exact ranges_select hs h
  | stat k => cases h; exact { hs with }
  | store => exact ranges_running (fun _ => ranges_emitStore) hs h
  | render p => exact ranges_running (fun _ => ranges_renderPattern p) hs h

end Sys2Proof
end

section
/-! The debouncer: what one sample does in each of its states (43 R152 to R155), and what a sequence of samples adds up to (R157). -/

namespace Sys2Proof.Machine

/-! ### One sample, state by state -/

@[simp] theorem debounce_idle_released (c : BitVec 4) :
    debounce { dbState := .idle, dbCnt := c } false = { deb := { dbState := .idle, dbCnt := 0 }, e := false } := rfl

@[simp] theorem debounce_idle_pressed (c : BitVec 4) :
    debounce { dbState := .idle, dbCnt := c } true = { deb := { dbState := .pressedPending, dbCnt := 1 }, e := false } := rfl

@[simp] theorem debounce_pending_released (c : BitVec 4) :
    debounce { dbState := .pressedPending, dbCnt := c } false = { deb := { dbState := .idle, dbCnt := 0 }, e := false } := rfl

/-- The one sample that confirms a press (43 R153). -/
theorem debounce_pending_confirms {c : BitVec 4} (h : c.toNat + 1 ≥ 3) :
    debounce { dbState := .pressedPending, dbCnt := c } true =
      { deb := { dbState := .pressedConfirmed, dbCnt := 0 }, e := true } := if_pos h

theorem debounce_pending_counts {c : BitVec 4} (h : ¬ c.toNat + 1 ≥ 3) :
    debounce { dbState := .pressedPending, dbCnt := c } true =
      { deb := { dbState := .pressedPending, dbCnt := c + 1 }, e := false } := if_neg h

@[simp] theorem debounce_confirmed_pressed (c : BitVec 4) :
    debounce { dbState := .pressedConfirmed, dbCnt := c } true =
      { deb := { dbState := .pressedConfirmed, dbCnt := 0 }, e := false } := rfl

@[simp] theorem debounce_confirmed_released (c : BitVec 4) :
    debounce { dbState := .pressedConfirmed, dbCnt := c } false = { deb := { dbState := .released, dbCnt := 1 }, e := false } := rfl

@[simp] theorem debounce_released_pressed (c : BitVec 4) :
    debounce { dbState := .released, dbCnt := c } true = { deb := { dbState := .pressedConfirmed, dbCnt := 0 }, e := false } := rfl

theorem debounce_released_settles {c : BitVec 4} (h : c.toNat + 1 ≥ 3) :
    debounce { dbState := .released, dbCnt := c } false = { deb := { dbState := .idle, dbCnt := 0 }, e := false } := if_pos h

theorem debounce_released_counts {c : BitVec 4} (h : ¬ c.toNat + 1 ≥ 3) :
    debounce { dbState := .released, dbCnt := c } false = { deb := { dbState := .released, dbCnt := c + 1 }, e := false } := if_neg h

/-- A press is confirmed by the D-th pressed sample and by no other (43 R153, R156). -/
theorem debounce_e_iff (d : Debouncer) (r : Bool) :
    (debounce d r).e = true ↔ d.dbState = .pressedPending ∧ r = true ∧ d.dbCnt.toNat + 1 ≥ 3 := by
  obtain ⟨st, c⟩ := d
  cases st <;> cases r
  case pressedPending.true =>
    by_cases h : c.toNat + 1 ≥ 3
    · simp [debounce_pending_confirms h, h]
    · simp [debounce_pending_counts h, h]
  case released.false =>
    by_cases h : c.toNat + 1 ≥ 3
    · simp [debounce_released_settles h]
    · simp [debounce_released_counts h]
  all_goals simp

/-- Below D the 4-bit count does not wrap. -/
theorem toNat_dbCnt_add_one {c : BitVec 4} (h : ¬ c.toNat + 1 ≥ 3) : (c + 1).toNat = c.toNat + 1 := by bv_omega

end Sys2Proof.Machine

namespace Sys2Proof

open Machine

/-! ### Sequences of samples -/

@[simp] theorem debounceRun_nil (d : Debouncer) : debounceRun d [] = (d, 0) := rfl

theorem debounceRun_cons (d : Debouncer) (r : Bool) (rs : List Bool) :
    debounceRun d (r :: rs) =
      ((debounceRun (debounce d r).deb rs).1, (if (debounce d r).e then 1 else 0) + (debounceRun (debounce d r).deb rs).2) := rfl

/-- A sample that confirms no press adds none to the count. -/
theorem debounceRun_cons_of_no_press {d : Debouncer} {r : Bool} (h : (debounce d r).e = false) (rs : List Bool) :
    debounceRun d (r :: rs) = debounceRun (debounce d r).deb rs := by
  simp [debounceRun_cons, h]

theorem debounceRun_append (d : Debouncer) (xs ys : List Bool) :
    debounceRun d (xs ++ ys) =
      ((debounceRun (debounceRun d xs).1 ys).1, (debounceRun d xs).2 + (debounceRun (debounceRun d xs).1 ys).2) := by
  induction xs generalizing d with
  | nil => simp
  | cons r rs ih => rw [List.cons_append, debounceRun_cons, ih, debounceRun_cons, Nat.add_assoc]

/-- A level that leaves the debouncer as it is may be held for any length of time. -/
theorem debounceRun_replicate_of_stable {d : Debouncer} {r : Bool} (h : debounce d r = { deb := d, e := false }) (k : Nat) :
    debounceRun d (List.replicate k r) = (d, 0) := by
  induction k with
  | zero => rfl
  | succ k ih => rw [List.replicate_succ, debounceRun_cons_of_no_press (by rw [h]), h, ih]

/-- Where D samples of one level lead to a stable debouncer, more of them lead no further. -/
theorem debounceRun_replicate_of_three {d d' : Debouncer} {r : Bool} {p n : Nat} (hn : 3 ≤ n)
    (h : debounceRun d (List.replicate 3 r) = (d', p)) (hstable : debounce d' r = { deb := d', e := false }) :
    debounceRun d (List.replicate n r) = (d', p) := by
  obtain ⟨k, rfl⟩ := Nat.exists_eq_add_of_le hn
  rw [List.replicate_add, debounceRun_append, h, debounceRun_replicate_of_stable hstable, Nat.add_zero]

/-! ### A clean press (43 R157 (a)) -/

theorem debounceRun_idle_held {n : Nat} (hn : 3 ≤ n) (c : BitVec 4) :
    debounceRun { dbState := .idle, dbCnt := c } (List.replicate n true) = ({ dbState := .pressedConfirmed, dbCnt := 0 }, 1) :=
  debounceRun_replicate_of_three hn rfl rfl

theorem debounceRun_confirmed_letGo {m : Nat} (hm : 3 ≤ m) (c : BitVec 4) :
    debounceRun { dbState := .pressedConfirmed, dbCnt := c } (List.replicate m false) = ({ dbState := .idle, dbCnt := 0 }, 0) :=
  debounceRun_replicate_of_three hm rfl rfl

theorem debounceRun_cleanPress {n m : Nat} (hn : 3 ≤ n) (hm : 3 ≤ m) (c : BitVec 4) :
    debounceRun { dbState := .idle, dbCnt := c } (List.replicate n true ++ List.replicate m false) =
      ({ dbState := .idle, dbCnt := 0 }, 1) := by
  rw [debounceRun_append, debounceRun_idle_held hn, debounceRun_confirmed_letGo hm, Nat.add_zero]

/-! ### Between two visits to `idle` (43 R157 (b)) -/

/-- How many presses the debouncer can still confirm before it is in `idle` again. -/
def pressesBeforeIdle : DbState → Nat
  | .idle | .pressedPending => 1
  | .pressedConfirmed | .released => 0

/-- A sample that does not lead to `idle` takes the press it confirms from those still possible. -/
theorem press_add_pressesBeforeIdle_le (d : Debouncer) (r : Bool) :
    ((debounce d r).deb.dbState = .idle ∧ (debounce d r).e = false) ∨
    (if (debounce d r).e then 1 else 0) + pressesBeforeIdle (debounce d r).deb.dbState ≤ pressesBeforeIdle d.dbState := by
  obtain ⟨st, c⟩ := d
  cases st <;> cases r
  case idle.false | pressedPending.false => exact .inl ⟨rfl, rfl⟩
  case idle.true | pressedConfirmed.true | pressedConfirmed.false | released.true => exact .inr le_rfl
  case pressedPending.true =>
    by_cases h : c.toNat + 1 ≥ 3
    · rw [debounce_pending_confirms h]
      exact .inr le_rfl
    · rw [debounce_pending_counts h]
      exact .inr le_rfl
  case released.false =>
    by_cases h : c.toNat + 1 ≥ 3
    · rw [debounce_released_settles h]
      exact .inl ⟨rfl, rfl⟩
    · rw [debounce_released_counts h]
      exact .inr le_rfl

/-- The samples bring the debouncer to `idle` at their end at the earliest. -/
def NoIdleInside (d : Debouncer) (rs : List Bool) : Prop :=
  ∀ ps, ps ≠ [] → ps <+: rs → ps ≠ rs → (debounceRun d ps).1.dbState ≠ .idle

theorem NoIdleInside.head {d : Debouncer} {r : Bool} {rs : List Bool} (h : NoIdleInside d (r :: rs)) (hrs : rs ≠ []) :
    (debounce d r).deb.dbState ≠ .idle :=
  h [r] (by simp) (by simp) (by simpa using hrs.symm)

theorem NoIdleInside.tail {d : Debouncer} {r : Bool} {rs : List Bool} (h : NoIdleInside d (r :: rs)) :
    NoIdleInside (debounce d r).deb rs :=
  fun ps _ hpre hne => h (r :: ps) (by simp) (by simpa using hpre) (by simpa using hne)

theorem presses_le_pressesBeforeIdle {d : Debouncer} {rs : List Bool} (h : NoIdleInside d rs) :
    (debounceRun d rs).2 ≤ pressesBeforeIdle d.dbState := by
  induction rs generalizing d with
  | nil => exact Nat.zero_le _
  | cons r rs ih =>
    rcases press_add_pressesBeforeIdle_le d r with ⟨hidle, he⟩ | hle
    · have hrs : rs = [] := by_contra fun hrs => h.head hrs hidle
      rw [hrs, debounceRun_cons_of_no_press he]
      exact Nat.zero_le _
    · exact (Nat.add_le_add_left (ih h.tail) _).trans hle

/-! ### Bounces (43 R157 (c)) -/

theorem no_three_pressed_of_append {xs rs : List Bool} (h : ¬ ([true, true, true] <:+: xs ++ rs)) :
    ¬ ([true, true, true] <:+: rs) :=
  fun hi => h (hi.trans (List.suffix_append xs rs).isInfix)

/-- Fewer than three pressed samples and a released one lead from `idle` back to `idle`, with no press confirmed. -/
theorem presses_of_no_three_pressed (c : BitVec 4) : ∀ rs : List Bool, ¬ ([true, true, true] <:+: rs) →
    (debounceRun { dbState := .idle, dbCnt := c } rs).2 = 0
  | [], _ | [true], _ | [true, true], _ => rfl
  | false :: rs, h => by
    have ih := presses_of_no_three_pressed 0 rs (no_three_pressed_of_append (xs := [false]) h)
    simpa [debounceRun_cons] using ih
  | true :: false :: rs, h => by
    have ih := presses_of_no_three_pressed 0 rs (no_three_pressed_of_append (xs := [true, false]) h)
    simpa [debounceRun_cons] using ih
  | true :: true :: false :: rs, h => by
    have ih := presses_of_no_three_pressed 0 rs (no_three_pressed_of_append (xs := [true, true, false]) h)
    simpa [debounceRun_cons, debounce_pending_counts] using ih
  | true :: true :: true :: rs, h => absurd ⟨[], rs, rfl⟩ h

/-! ### From one event to the next (43 R157 (d)) -/

/-- The least number of samples until the debouncer confirms a press. -/
def samplesToPress (d : Debouncer) : Nat :=
  match d.dbState with
  | .idle => 3
  | .pressedPending => 3 - d.dbCnt.toNat
  | .pressedConfirmed => 6
  | .released => 6 - d.dbCnt.toNat

/-- One sample brings the debouncer at most one sample nearer to a press. -/
theorem samplesToPress_le_succ (d : Debouncer) (r : Bool) : samplesToPress d ≤ samplesToPress (debounce d r).deb + 1 := by
  obtain ⟨st, c⟩ := d
  cases st <;> cases r
  case idle.false | idle.true | pressedConfirmed.false | pressedConfirmed.true => simp [samplesToPress]
  case pressedPending.false | released.true =>
    simp only [samplesToPress, debounce_pending_released, debounce_released_pressed]
    omega
  case pressedPending.true =>
    by_cases h : c.toNat + 1 ≥ 3
    · simp only [debounce_pending_confirms h, samplesToPress]
      omega
    · simp only [debounce_pending_counts h, samplesToPress, toNat_dbCnt_add_one h]
      omega
  case released.false =>
    by_cases h : c.toNat + 1 ≥ 3
    · simp only [debounce_released_settles h, samplesToPress]
      omega
    · simp only [debounce_released_counts h, samplesToPress, toNat_dbCnt_add_one h]
      omega

/-- A debouncer about to confirm a press has one pressed sample to go. -/
theorem samplesToPress_le_one {d : Debouncer} {r : Bool} (he : (debounce d r).e = true) : samplesToPress d ≤ 1 := by
  obtain ⟨hst, -, hcnt⟩ := (debounce_e_iff d r).mp he
  simp only [samplesToPress, hst]
  omega

theorem samplesToPress_le_length {d : Debouncer} {rs : List Bool} (h : 1 ≤ (debounceRun d rs).2) : samplesToPress d ≤ rs.length := by
  induction rs generalizing d with
  | nil => simp at h
  | cons r rs ih =>
    cases he : (debounce d r).e with
    | true => exact (samplesToPress_le_one he).trans (by simp)
    | false =>
      rw [debounceRun_cons_of_no_press he] at h
      exact (samplesToPress_le_succ d r).trans (Nat.succ_le_succ (ih h))

/-- Settles O33: the four parts are the clean press, the presses still possible before `idle`, the bounces that lead back to `idle`, and
the samples still needed for a press. -/
theorem pressProperties : Obligations.PressProperties :=
  ⟨fun c _ _ hn hm => ⟨debounceRun_cleanPress hn hm c, rfl, debounceRun_idle_held le_rfl c⟩,
    fun _ _ h => presses_le_pressesBeforeIdle h, presses_of_no_three_pressed, fun _ h => samplesToPress_le_length h⟩

end Sys2Proof
end

section
/-! The four debounce operations by themselves, and SAMPLE, which does one of them to each button (43 R150 to R159). -/

namespace Sys2Proof.Machine

/-! ### The operations by themselves -/

theorem onlyDebouncer_debounceButton (s : State) (b : Button) (f : BitVec 4 → DebounceResult) :
    onlyDebouncer s (debounceButton s.quiet b f) b (f (debouncerOf s.samp b).dbCnt).deb (f (debouncerOf s.samp b).dbCnt).e := by
  cases b <;> rfl

/-- Outside FATAL a debounce operation does its state's DEBOUNCE to its own button, and nothing else. -/
theorem exec_debounceInstr_onlyDebouncer {s : State} (hp : s.ctl.phase ≠ .fatal) (b : Button) (r : Bool) (d : DbState)
    {x : DebounceResult} (hx : debounce { dbState := d, dbCnt := (debouncerOf s.samp b).dbCnt } r = x) :
    ∃ t, exec (debounceInstr b r d) s = .next t ∧ onlyDebouncer s t b x.deb x.e := by
  subst hx
  exact ⟨_, by rw [exec_debounceInstr, whileRunning_of_ne hp], onlyDebouncer_debounceButton s b _⟩

/-! ### SAMPLE -/

theorem execSample_of_fatal {s : State} (hp : s.ctl.phase = .fatal) (rC rW : Bool) : exec (.sample rC rW) s = .next s.quiet := by
  rw [exec, execSample, whileRunning_of_fatal hp]

theorem execSample_of_running {s : State} (hp : s.ctl.phase ≠ .fatal) (rC rW : Bool) :
    exec (.sample rC rW) s = .next (sampleButtons rC rW s.quiet) := by
  rw [exec, execSample, whileRunning_of_ne hp]

theorem handoff_out (s : State) (eC eW : Bool) : (handoff s eC eW).out = s.out := by
  rw [handoff_eq]
  rfl

theorem handoff_ctl (s : State) (eC eW : Bool) :
    (handoff s eC eW).ctl =
      if s.ctl.phase = .idle ∧ eC = true then { s.ctl with wf := .check, phase := .start }
      else if s.ctl.phase = .idle ∧ eW = true then { s.ctl with wf := .write, phase := .start }
      else s.ctl := by
  rcases handoff_cases s eC eW with ⟨hi, hC, e⟩ | ⟨hi, hC, hW, e⟩ | ⟨hno, e⟩ <;> rw [e]
  · rw [if_pos ⟨hi, hC⟩]
    rfl
  · rw [if_neg (by simp [hC]), if_pos ⟨hi, hW⟩]
    rfl
  · rw [if_neg, if_neg] <;> rintro ⟨hi, he⟩ <;> simp [hi, he] at hno

@[simp] theorem sampleButtons_samp (rC rW : Bool) (s : State) :
    (sampleButtons rC rW s).samp = { check := (debounce s.samp.check rC).deb, write := (debounce s.samp.write rW).deb } :=
  handoff_samp _ _ _

@[simp] theorem sampleButtons_out (rC rW : Bool) (s : State) :
    (sampleButtons rC rW s).out =
      { s.out with evtCheck := (debounce s.samp.check rC).e, evtWrite := (debounce s.samp.write rW).e } :=
  handoff_out _ _ _

theorem sampleButtons_ctl (rC rW : Bool) (s : State) :
    (sampleButtons rC rW s).ctl =
      if s.ctl.phase = .idle ∧ (debounce s.samp.check rC).e = true then { s.ctl with wf := .check, phase := .start }
      else if s.ctl.phase = .idle ∧ (debounce s.samp.write rW).e = true then { s.ctl with wf := .write, phase := .start }
      else s.ctl :=
  handoff_ctl (sampled rC rW s) _ _

end Sys2Proof.Machine

namespace Sys2Proof

open Machine

/-- Settles O30: each operation is DEBOUNCE in its state, and two of the tables go by the count. -/
theorem debounceOperations : Obligations.DebounceOperations := by
  intro s b hp
  refine ⟨exec_debounceInstr_onlyDebouncer hp b false .idle rfl, exec_debounceInstr_onlyDebouncer hp b true .idle rfl,
    exec_debounceInstr_onlyDebouncer hp b false .pressedPending rfl, ?pending,
    exec_debounceInstr_onlyDebouncer hp b true .pressedConfirmed rfl, exec_debounceInstr_onlyDebouncer hp b false .pressedConfirmed rfl,
    exec_debounceInstr_onlyDebouncer hp b true .released rfl, ?released⟩
  case pending =>
    split_ifs with h
    · exact exec_debounceInstr_onlyDebouncer hp b true .pressedPending (debounce_pending_confirms h)
    · exact exec_debounceInstr_onlyDebouncer hp b true .pressedPending (debounce_pending_counts h)
  case released =>
    split_ifs with h
    · exact exec_debounceInstr_onlyDebouncer hp b false .released (debounce_released_settles h)
    · exact exec_debounceInstr_onlyDebouncer hp b false .released (debounce_released_counts h)

/-- The word of a SAMPLE, field by field (43 R150, 30_encoding R98). -/
theorem encode_sample (rC rW : Bool) :
    encode (.sample rC rW) =
      { port := .stimulus, code := 0b0010#4 ++ 0#2 ++ BitVec.ofBool rW ++ BitVec.ofBool rC ++ 0#32 } := by
  cases rC <;> cases rW <;> rfl

/-- Settles O31: the word is the encoding of the event, and outside FATAL the hand-off comes after the two debouncers. -/
theorem sampleResult : Obligations.SampleResult := by
  refine ⟨fun rC rW => ?word, fun s rC rW hp => execSample_of_fatal hp rC rW,
    fun s rC rW hp => ⟨_, execSample_of_running hp rC rW, ?check, ?write, ?evt, sampleButtons_ctl rC rW s.quiet, ?frame⟩⟩
  case word =>
    rw [← encode_sample]
    exact encodeThenDecode (.sample rC rW) rfl
  case check | write => rw [sampleButtons_samp, State.quiet_samp]
  case evt => rw [evtPins, sampleButtons_out, State.quiet_samp]
  case frame =>
    rw [sampleButtons_samp, sampleButtons_out, sampleButtons_eq, handoff_eq]
    rfl

/-- Settles O32: in FATAL all three leave the debouncers alone and the pins quiet; elsewhere both sides are DEBOUNCE of the button. -/
theorem sampleIsItsOperations : Obligations.SampleIsItsOperations := by
  intro s tC tW t rC rW hC hW h
  rw [exec_debounceInstr] at hC hW
  by_cases hp : s.ctl.phase = .fatal
  · rw [whileRunning_of_fatal hp] at hC hW
    rw [execSample_of_fatal hp] at h
    cases hC
    cases hW
    cases h
    exact ⟨rfl, rfl, rfl, rfl⟩
  · rw [whileRunning_of_ne hp] at hC hW
    rw [execSample_of_running hp] at h
    cases hC
    cases hW
    cases h
    rw [sampleButtons_samp, sampleButtons_out]
    exact ⟨rfl, rfl, rfl, rfl⟩

end Sys2Proof
end

section
/-! The phase operations: CTL and RSP are the operation of the current phase, and which of them do nothing (44 R171, R172, R180,
47 R254). -/

namespace Sys2Proof.Machine

/-! ### Dispatch on the phase -/

/-- The code of a phase, zero-extended on its port, is its operation (30_encoding R86). -/
theorem phaseCode_phaseInstr (p : Phase) : phaseCode (p.code.setWidth 40) fun e => phaseInstr e p :=
  fun e => decode_encodePhase p e

/-- A CTL is the operation of the current phase on a CTL (44 R171). -/
theorem execCtl_eq_phaseInstr (s : State) : exec .ctl s = exec (phaseInstr .ctl s.ctl.phase) s := by
  by_cases hf : s.ctl.phase = .fatal
  · rw [hf, exec, execCtl, whileRunning_of_fatal hf]
    rfl
  · rw [exec, execCtl, whileRunning_of_ne hf, State.quiet_ctl]
    cases hp : s.ctl.phase with
    | fatal => exact absurd hp hf
    | _ => exact (if_neg hf).symm

/-- An RSP is the operation of the current phase on that answer (44 R172). -/
theorem execRsp_eq_phaseInstr (r : Rsp) (s : State) : exec (.rsp r) s = exec (phaseInstr (.rsp r) s.ctl.phase) s := by
  by_cases hf : s.ctl.phase = .fatal
  · rw [hf, exec, execRsp, whileRunning_of_fatal hf]
    rfl
  · rw [exec, execRsp, whileRunning_of_ne hf, State.quiet_ctl]
    cases hp : s.ctl.phase with
    | fatal => exact absurd hp hf
    | _ => exact (if_neg hf).symm

theorem exec_phaseInstr_ctl {s : State} {p : Phase} (hp : s.ctl.phase = p) : exec (phaseInstr .ctl p) s = exec .ctl s := by
  rw [← hp, ← execCtl_eq_phaseInstr]

/-! ### Operations that do nothing -/

/-- An agent with nothing to do changes nothing, running or not. -/
theorem whileRunning_next_eq (s : State) : whileRunning s .next = .next s.quiet := ite_self _

/-- A wait phase has no rule for a CTL (44 R180). -/
theorem exec_phaseInstr_ctl_of_wait {p : Phase} (hp : isWait p = true) (s : State) :
    exec (phaseInstr .ctl p) s = .next s.quiet := by
  cases p with
  | detect | read | write | verify => exact whileRunning_next_eq s
  | _ => exact absurd hp Bool.false_ne_true

/-- A phase that does not wait has no rule for an answer (47 R254). -/
theorem exec_phaseInstr_rsp_of_not_wait {p : Phase} (hp : isWait p = false) (r : Rsp) (s : State) :
    exec (phaseInstr (.rsp r) p) s = .next s.quiet := by
  cases p with
  | detect | read | write | verify => exact absurd hp.symm Bool.false_ne_true
  | fatal => rfl
  | _ => exact whileRunning_next_eq s

theorem execCtl_of_wait {s : State} (h : isWait s.ctl.phase = true) : exec .ctl s = .next s.quiet :=
  (execCtl_eq_phaseInstr s).trans (exec_phaseInstr_ctl_of_wait h s)

end Sys2Proof.Machine

namespace Sys2Proof

open Machine

/-- Settles O34: event by event, in FATAL and outside it. -/
theorem phaseSelectsOperation : Obligations.PhaseSelectsOperation :=
  fun s => ⟨execCtl_eq_phaseInstr s, fun r => execRsp_eq_phaseInstr r s⟩

/-- Settles O39: in a wait phase a CTL, and in any other an RSP, is a phase operation with no rule. -/
theorem waitingAndStrayAnswers : Obligations.WaitingAndStrayAnswers := fun s =>
  ⟨execCtl_of_wait, fun _ => execRsp_of_not_wait, fun _ hp => exec_phaseInstr_ctl_of_wait hp s,
   fun _ r hp => exec_phaseInstr_rsp_of_not_wait hp r s⟩

end Sys2Proof
end

section
/-! The Controller on a CTL, phase by phase: BOOT and IDLE, START, SELECT, SETTLE and NEXT (44 R175 to R181). -/

namespace Sys2Proof.Machine

theorem onlyCtl_withCtl (s : State) (c : CtlRegs) : onlyCtl s (s.quiet.withCtl c) OutPins.quiet := rfl

/-! ### BOOT and IDLE (44 R175) -/

theorem CtlRegs.phase_eta {c : CtlRegs} {p : Phase} (h : c.phase = p) : { c with phase := p } = c := by
  subst h
  rfl

theorem bootOnCtl_eq {s : State} (hp : s.ctl.phase = .boot) :
    bootOnCtl s = s.withCtl { s.ctl with phase := if s.sched.bootDone then .idle else .boot } := by
  unfold bootOnCtl
  split
  · rfl
  · rw [CtlRegs.phase_eta hp, State.withCtl_self]

/-- Of the events but RESET a SAMPLE with a confirmed press alone leaves IDLE, for START, and only `phase` and `wf` change (43 R158). -/
theorem exec_of_idle {i : Instr} {s t : State} (hp : s.ctl.phase = .idle) (hi : i.isEvent = true) (hr : notReset i = true)
    (h : exec i s = .next t) :
    t.ctl = s.ctl ∨
    ((∃ rC rW, i = .sample rC rW) ∧ (t.out.evtCheck = true ∨ t.out.evtWrite = true) ∧
      ∃ w, t.ctl = { s.ctl with wf := w, phase := .start }) := by
  rcases isEvent_cases hi with ⟨dip, resOk, rfl⟩ | rfl | rfl | ⟨rC, rW, rfl⟩ | ⟨r, rfl⟩
  · exact absurd hr Bool.false_ne_true
  · rw [execCtl_idle hp] at h
    cases h
    exact .inl rfl
  · obtain ⟨hctl, -, -⟩ := execTick_writes h
    exact .inl hctl
  · rw [execSample_of_running (by simp [hp])] at h
    cases h
    rw [sampleButtons_out, sampleButtons_ctl]
    split_ifs with hC hW
    · exact .inr ⟨⟨rC, rW, rfl⟩, .inl hC.2, .check, rfl⟩
    · exact .inr ⟨⟨rC, rW, rfl⟩, .inr hW.2, .write, rfl⟩
    · exact .inl rfl
  · rw [execRsp_of_not_wait (by rw [hp]; rfl)] at h
    cases h
    exact .inl rfl

/-! ### START (44 R176) -/

/-- A record with its three status fields cleared and its lamp derived: nothing is known of the slot, and its lamp is off. -/
theorem relamp_clearedRecord (r : SlotState) : relamp (clearedRecord r) .norm = SlotState.reset := rfl

theorem ctxOf_of_quiet {c : CtlRegs} (hg : c.gerr = false) (ha : c.act = false) (i : Slot) : ctxOf c i = .norm := by
  simp [ctxOf, hg, ha]

/-- What START writes beside the record array. -/
theorem startOnCtl_ctl (s : State) :
    (startOnCtl s).ctl =
      { s.ctl with slot := (startOnCtl s).ctl.slot, gerr := false, runErr := .ok, act := false, refImage := none, refValid := false,
                   cur := 0, phase := .select } := by
  rw [startOnCtl_eq]
  rfl

theorem startOnCtl_at (s : State) (i : Slot) :
    recordAt (startOnCtl s).ctl i = relamp (recordAt (startRegs s.ctl) i) .norm := by
  rw [startOnCtl_eq, State.withCtl_ctl, recordAt_mk, rederive_at, ctxOf_of_quiet rfl rfl]

/-- START clears every record for a CHECK, and slot 0's always. -/
theorem startOnCtl_at_cleared {s : State} {i : Slot} (h : s.ctl.wf = .check ∨ i = 0) :
    recordAt (startOnCtl s).ctl i = SlotState.reset := by
  rw [startOnCtl_at]
  rcases startSlots_cases s.ctl (startRegs s.ctl) rfl i with e | ⟨-, hck, hi⟩
  · rw [e, relamp_clearedRecord]
  · exact absurd h (by simp [hck, hi])

/-- START keeps the status of a target's record for a WRITE. -/
theorem sameStatus_startOnCtl {s : State} {i : Slot} (hw : s.ctl.wf ≠ .check) (hi : i ≠ 0) :
    sameStatus (recordAt s.ctl i) (recordAt (startOnCtl s).ctl i) := by
  have hslot : (startRegs s.ctl).slot = (setRecord s.ctl 0 (clearedRecord (recordAt s.ctl 0))).slot := by
    simp only [startRegs, startSlots]
    cases hwf : s.ctl.wf with
    | check => exact absurd hwf hw
    | write | none => rfl
  rw [startOnCtl_at, recordAt_congr hslot, setRecord_at_other _ _ (Ne.symm hi)]
  exact sameStatus_relamp _ _

/-! ### SELECT (44 R178) -/

/-- The registers once `cur` stands on the address lines (40 R110). -/
def addressed (c : CtlRegs) : CtlRegs := { c with muxAddr := c.cur.setWidth 4 }

@[simp] theorem addressed_at (c : CtlRegs) (i : Slot) : recordAt (addressed c) i = recordAt c i := rfl

theorem selectOnCtl_of_le {s : State} (h : s.ctl.cur.toNat ≤ 15) :
    selectOnCtl s = .next (s.withCtl (selectedRegs (addressed s.ctl) s.tSettle)) := by
  rw [selectOnCtl, selectThen_of_le h, BitVec.ofNat_toNat]
  rfl

theorem selectOnCtl_of_gt {s : State} (h : 15 < s.ctl.cur.toNat) :
    selectOnCtl s = .next (s.withCtl (fatalRegs s.ctl .addressOutOfRange)) := selectThen_of_gt h

/-- SELECT of a target of a WRITE puts its lamp on `dataActivity`: it sets `act` and re-derives the lamps. -/
theorem selectedRegs_of_target {c : CtlRegs} (h : c.wf = .write ∧ 1 ≤ c.cur.toNat) (n : BitVec 16) :
    selectedRegs c n = { rederive { c with settleCtr := n, act := true } with phase := .settle } :=
  if_pos ⟨h.1, isTarget_iff.mpr h.2⟩

theorem selectedRegs_of_not_target {c : CtlRegs} (h : ¬ (c.wf = .write ∧ 1 ≤ c.cur.toNat)) (n : BitVec 16) :
    selectedRegs c n = { c with settleCtr := n, phase := .settle } :=
  if_neg fun ht => h ⟨ht.1, isTarget_iff.mp ht.2⟩

theorem selectedRegs_slot_of_not_target {c : CtlRegs} (h : ¬ (c.wf = .write ∧ 1 ≤ c.cur.toNat)) (n : BitVec 16) :
    (selectedRegs c n).slot = c.slot := by
  rw [selectedRegs_of_not_target h]

/-- What SELECT writes beside the record array. -/
theorem selectedRegs_eq (c : CtlRegs) (n : BitVec 16) :
    selectedRegs c n =
      { c with slot := (selectedRegs c n).slot, settleCtr := n,
               act := if c.wf = .write ∧ 1 ≤ c.cur.toNat then true else c.act, phase := .settle } := by
  by_cases h : c.wf = .write ∧ 1 ≤ c.cur.toNat
  · rw [selectedRegs_of_target h, if_pos h]
    rfl
  · rw [selectedRegs_of_not_target h, if_neg h]

theorem selectedRegs_at_of_target {c : CtlRegs} (h : c.wf = .write ∧ 1 ≤ c.cur.toNat) (n : BitVec 16) (i : Slot) :
    recordAt (selectedRegs c n) i = relamp (recordAt c i) (ctxOf { c with settleCtr := n, act := true } i) := by
  rw [selectedRegs_of_target h, recordAt_mk, rederive_at, recordAt_mk]

/-! ### SETTLE (44 R179) -/

theorem settleOnCtl_counts {s : State} (h : s.ctl.settleCtr ≠ 0) :
    settleOnCtl s = s.withCtl { s.ctl with settleCtr := s.ctl.settleCtr - 1 } := if_pos h

theorem settleOnCtl_detects {s : State} (h : s.ctl.settleCtr = 0) (hd : s.ctl.cur = 0 ∨ s.ctl.wf = .check) :
    settleOnCtl s = issueCommand s .detect := by
  rw [settleOnCtl, if_neg (not_not.mpr h), if_pos hd]

theorem settleOnCtl_writes {s : State} (h : s.ctl.settleCtr = 0) (hd : ¬ (s.ctl.cur = 0 ∨ s.ctl.wf = .check)) :
    settleOnCtl s = issueCommand s .write := by
  rw [settleOnCtl, if_neg (not_not.mpr h), if_neg hd]

/-- `k` CTL events in SETTLE subtract `k`, where the counter holds as much. -/
theorem settle_run_ctl {k : Nat} {s t : State} (hp : s.ctl.phase = .settle) (hk : k ≤ s.ctl.settleCtr.toNat)
    (h : runInstrs (List.replicate k .ctl) s.quiet = .next t) :
    t = s.quiet.withCtl { s.ctl with settleCtr := s.ctl.settleCtr - BitVec.ofNat 16 k } := by
  induction k generalizing s with
  | zero =>
    cases h
    simp [State.quiet, State.withCtl, State.withOut]
  | succ k ih =>
    obtain ⟨u, hu, hrest⟩ := runInstrs_cons_next h
    have hne : s.ctl.settleCtr ≠ 0 := fun h0 => by simp [h0] at hk
    rw [execCtl_settle (s := s.quiet) hp, State.quiet_quiet, settleOnCtl_counts (s := s.quiet) hne] at hu
    cases hu
    have hle : k ≤ (s.ctl.settleCtr - 1).toNat := by bv_omega
    have hsub : s.ctl.settleCtr - 1 - BitVec.ofNat 16 k = s.ctl.settleCtr - BitVec.ofNat 16 (k + 1) := by
      bv_omega
    have ht := ih (s := s.quiet.withCtl { s.ctl with settleCtr := s.ctl.settleCtr - 1 }) hp hle hrest
    rw [ht, ← hsub]
    rfl

/-! ### NEXT (44 R181) -/

theorem nextOnCtl_ends {s : State} (h : s.ctl.cur.toNat = 15) : nextOnCtl s = s.withCtl (endWorkflow s.ctl) :=
  if_pos (by omega)

/-- Where there is a next slot, NEXT moves on to it, and selects it in a CHECK or where it may be cloned to. -/
theorem nextOnCtl_to {s : State} {n : Slot} (hn : n.val = s.ctl.cur.toNat + 1) :
    nextOnCtl s = s.withCtl { s.ctl with
      cur := BitVec.ofNat 5 n.val
      phase := if s.ctl.wf = .check ∨ (recordAt s.ctl n).sizeMatch = .matching then .select else .next } := by
  have hlt := n.isLt
  have hne : s.ctl.cur.toNat + 1 ≠ 16 := by omega
  have hcur : curOfNat (s.ctl.cur.toNat + 1) = BitVec.ofNat 5 n.val := by
    rw [← hn]
    exact if_pos (by omega)
  simp only [nextOnCtl, if_neg hne, slotMatches_of_slot s.ctl hn, decide_eq_true_iff, hcur]

end Sys2Proof.Machine

namespace Sys2Proof

open Machine

/-- Settles O54: every line of the table is a line of the function. -/
theorem lampModeTable : Obligations.LampModeTable :=
  fun _ _ _ => ⟨rfl, rfl, rfl, rfl, rfl, rfl, rfl, rfl, rfl, rfl⟩

/-- Settles O35: `bootOnCtl_eq` is the CTL in BOOT, and `exec_of_idle` says which events leave IDLE. -/
theorem bootAndIdlePhases : Obligations.BootAndIdlePhases := by
  refine ⟨phaseCode_phaseInstr .boot, phaseCode_phaseInstr .idle, fun s =>
    ⟨fun hp => ⟨?boot, exec_phaseInstr_ctl hp⟩,
     fun hp => ⟨execCtl_idle hp, exec_phaseInstr_ctl hp, fun i t hi hr h => ?idle⟩⟩⟩
  case boot =>
    rw [execCtl_boot hp, bootOnCtl_eq (s := s.quiet) hp]
    rfl
  case idle =>
    rcases exec_of_idle hp hi hr h with e | ⟨hsample, hevt, w, e⟩ <;> rw [e]
    · exact ⟨rfl, .inl ⟨hp, rfl⟩⟩
    · exact ⟨rfl, .inr ⟨rfl, hsample, hevt⟩⟩

/-- Settles O36: the registers are written out, and each record is cleared or keeps its status, with its lamp derived. -/
theorem startPhase : Obligations.StartPhase := by
  refine ⟨phaseCode_phaseInstr .start, fun s hp =>
    ⟨startOnCtl s.quiet, execCtl_start hp, (exec_phaseInstr_ctl hp).trans (execCtl_start hp), onlyCtl_withCtl s _,
      startOnCtl_ctl s.quiet, ?_, ?_, ?_⟩⟩
  · exact lampsDerived_phase _ _ (lampsDerived_rederive (startRegs s.ctl))
  · exact fun hck i => startOnCtl_at_cleared (s := s.quiet) (.inl hck)
  · exact fun hw => ⟨fun i hi => sameStatus_startOnCtl (s := s.quiet) hw hi, startOnCtl_at_cleared (s := s.quiet) (.inr rfl)⟩

/-- Settles O37: on either side of the range check, and for a target of a WRITE or not. -/
theorem selectPhase : Obligations.SelectPhase := by
  refine ⟨phaseCode_phaseInstr .select, fun s hp => ?_⟩
  rw [show exec (.phSelect .ctl) s = exec .ctl s from exec_phaseInstr_ctl hp, execCtl_select hp]
  rcases Nat.lt_or_ge 15 s.ctl.cur.toNat with hgt | hle
  · exact ⟨_, selectOnCtl_of_gt hgt, selectOnCtl_of_gt hgt, rfl, fun hle => absurd hgt (Nat.not_lt.mpr hle), fun _ => rfl⟩
  · refine ⟨_, selectOnCtl_of_le hle, selectOnCtl_of_le hle, rfl,
      fun _ => ⟨selectedRegs_eq (addressed s.ctl) s.tSettle, fun hn => ?other, fun ht => ?target⟩,
      fun hgt => absurd hgt (Nat.not_lt.mpr hle)⟩
    case other => exact selectedRegs_slot_of_not_target (c := addressed s.ctl) hn s.tSettle
    case target =>
      have hat := selectedRegs_at_of_target (c := addressed s.ctl) ht s.tSettle
      have hlamps : lampsDerived (selectedRegs (addressed s.ctl) s.tSettle) := by
        rw [selectedRegs_of_target (c := addressed s.ctl) ht]
        exact lampsDerived_phase _ _ (lampsDerived_rederive _)
      refine ⟨fun i => ?_, hlamps, fun hg i hi => ?_⟩
      · exact (hat i).symm ▸ sameStatus_relamp (recordAt s.ctl i) _
      · exact (congrArg SlotState.ledMode (hat i)).trans (by simp [ctxOf, addressed, hg, hi, ledModeOf])

/-- Settles O38: the counter and then the slot and the workflow split the CTL in three, and the count of `k` is by induction. -/
theorem settlePhase : Obligations.SettlePhase := by
  refine ⟨phaseCode_phaseInstr .settle, fun s hp => ⟨fun h => ?_, fun h hd => ?_, fun h hd => ?_, exec_phaseInstr_ctl hp,
    fun k t hk h => settle_run_ctl hp hk h⟩⟩
  all_goals rw [execCtl_settle hp]
  · rw [settleOnCtl_counts (s := s.quiet) h]
    rfl
  · rw [settleOnCtl_detects (s := s.quiet) h hd]
    rfl
  · rw [settleOnCtl_writes (s := s.quiet) h hd]
    rfl

/-- Settles O47: slot 15 is the last, and before it `cur + 1` names a slot. -/
theorem nextPhase : Obligations.NextPhase := by
  refine ⟨phaseCode_phaseInstr .next, fun s hp => ⟨fun hcur => ?_, fun n hn => ?_, exec_phaseInstr_ctl hp⟩⟩
  · rw [execCtl_next hp, nextOnCtl_ends (s := s.quiet) (by simp [hcur])]
    rfl
  · rw [execCtl_next hp, nextOnCtl_to (s := s.quiet) hn]
    rfl

end Sys2Proof
end

section
/-! What an answer for a target slot leaves as it was: every other slot's record, and the workflow (44 R184). -/

namespace Sys2Proof.Machine

/-- Under no global error only the slot worked on can be in another context than `norm` (44 R173). -/
theorem ctxOf_of_other {c : CtlRegs} (hg : c.gerr = false) {j : Slot} (hj : j.val ≠ c.cur.toNat) : ctxOf c j = .norm := by
  simp [ctxOf, hg, hj]

/-- A write to slot `cur` reaches no other slot. -/
theorem setCurRecord_at_other (c : CtlRegs) (f : SlotState → SlotState) {j : Slot} (hj : j.val ≠ c.cur.toNat) :
    recordAt (setCurRecord c f) j = recordAt c j := by
  rcases setCurRecord_cases c f with ⟨i, hi, e⟩ | ⟨-, e⟩ <;> rw [e]
  exact setRecord_at_other c _ fun hij => hj (hij ▸ hi)

/-- A lamp that is derived is left as it is by the next REDERIVE in the same context. -/
theorem relamp_eq_self {r : SlotState} {x : LedCtx} (h : r.ledMode = ledModeOf r.presence r.sizeMatch r.lastOpResult x) :
    relamp r x = r := by
  rw [relamp, ← h]

theorem setCurRecord_gerr (c : CtlRegs) (f : SlotState → SlotState) : (setCurRecord c f).gerr = c.gerr := by
  rw [setCurRecord_eq]

theorem setCurRecord_act (c : CtlRegs) (f : SlotState → SlotState) : (setCurRecord c f).act = c.act := by
  rw [setCurRecord_eq]

/-- The end of the turn of slot `cur`, whose record `f` rewrites: no operation is in flight, and the lamps are derived. -/
def turnEnded (c : CtlRegs) (f : SlotState → SlotState) : CtlRegs := slotDone { setCurRecord c f with act := false }

/-- What the end of a slot's turn writes beside the record array. -/
theorem turnEnded_eq (c : CtlRegs) (f : SlotState → SlotState) :
    turnEnded c f = { c with slot := (turnEnded c f).slot, act := false, phase := .next } := by
  unfold turnEnded
  rw [setCurRecord_eq]
  rfl

theorem turnEnded_at {c : CtlRegs} (hg : c.gerr = false) (f : SlotState → SlotState) (i : Slot) :
    recordAt (turnEnded c f) i = relamp (recordAt (setCurRecord c f) i) .norm := by
  have hctx : ctxOf { setCurRecord c f with act := false } i = .norm := by
    simp [ctxOf, setCurRecord_gerr, hg]
  rw [turnEnded, slotDone_at, recordAt_mk, hctx]

/-- The end of a slot's turn leaves every other record as it was, the lamp too where it was derived (44 R184). -/
theorem turnEnded_at_other {c : CtlRegs} (hled : lampsDerived c) (hg : c.gerr = false) (f : SlotState → SlotState) {j : Slot}
    (hj : j.val ≠ c.cur.toNat) : recordAt (turnEnded c f) j = recordAt c j := by
  rw [turnEnded_at hg, setCurRecord_at_other c f hj]
  exact relamp_eq_self (by rw [hled j, ctxOf_of_other hg hj])

theorem attemptDone_eq_turnEnded (k : OpResult) (s : State) :
    attemptDone k s = s.withCtl (turnEnded s.ctl fun ri => { ri with lastOpResult := k }) := attemptDone_eq k s

theorem detectOnRsp_of_target {s : State} (h : 1 ≤ s.ctl.cur.toNat) (r : Rsp) : detectOnRsp r s = targetDetected r s :=
  if_pos (isTarget_iff.mpr h)

/-- What a target's DETECT answer writes into its record (45 R204). -/
def detectedRecord (r : Rsp) (refSize : ChipSize) (ri : SlotState) : SlotState :=
  { ri with presence := (detectedStatus r refSize).1, sizeMatch := (detectedStatus r refSize).2 }

theorem CtlRegs.act_eta {c : CtlRegs} {a : Bool} (h : c.act = a) : { c with act := a } = c := by
  subst h
  rfl

theorem targetDetected_eq_turnEnded {s : State} (hact : s.ctl.act = false) (r : Rsp) :
    targetDetected r s = s.withCtl (turnEnded s.ctl (detectedRecord r s.ctl.refSize)) := by
  rw [turnEnded, CtlRegs.act_eta ((setCurRecord_act _ _).trans hact)]
  exact targetDetected_eq r s

end Sys2Proof.Machine

namespace Sys2Proof

open Machine

/-- An answer leaves the records of all slots but `cur`'s and the workflow as they were (44 R184). -/
structure Isolated (c d : CtlRegs) : Prop where
  records : ∀ j : Slot, j.val ≠ c.cur.toNat → recordAt d j = recordAt c j
  wf : d.wf = c.wf
  cur : d.cur = c.cur
  gerr : d.gerr = c.gerr
  runErr : d.runErr = c.runErr

theorem isolated_turnEnded {c : CtlRegs} (hled : lampsDerived c) (hg : c.gerr = false) (f : SlotState → SlotState) :
    Isolated c (turnEnded c f) := by
  refine ⟨fun j hj => turnEnded_at_other hled hg f hj, ?_, ?_, ?_, ?_⟩ <;> rw [turnEnded_eq]

/-- An answer for a target slot ends its turn, or is the successful WRITE that goes on to VERIFY (44 R184). -/
theorem execRsp_of_target {s t : State} {r : Rsp} (h : CtlInv s.ctl) (hw : isWait s.ctl.phase = true) (hcur : 1 ≤ s.ctl.cur.toNat)
    (ht : exec (.rsp r) s = .next t) :
    Isolated s.ctl t.ctl ∧ (t.ctl.phase = .next ∨ (s.ctl.phase = .write ∧ r.status = .ok ∧ t.ctl.phase = .verify)) := by
  rcases execRsp_next_cases ht with ⟨hp, rfl⟩ | ⟨hp, rfl⟩ | ⟨hp, rfl⟩ | ⟨hp, rfl⟩ | ⟨hn, -⟩
  · obtain ⟨hled, hturn, -⟩ := (ctlInv_detect_iff hp).mp h
    rw [detectOnRsp_of_target (s := s.quiet) hcur, targetDetected_eq_turnEnded (s := s.quiet) hturn.act]
    exact ⟨isolated_turnEnded hled hturn.gerr _, .inl rfl⟩
  · obtain ⟨-, -, ⟨-, h0⟩, -⟩ := (ctlInv_read_iff hp).mp h
    exact absurd hcur (by simp [h0])
  · obtain ⟨hled, hturn, -⟩ := (ctlInv_attempt_iff (.inl hp)).mp h
    rcases writeOnRsp_cases r s.quiet with ⟨hok, e⟩ | ⟨-, e⟩ <;> rw [e]
    · exact ⟨⟨fun _ _ => rfl, rfl, rfl, rfl, rfl⟩, .inr ⟨hp, hok, rfl⟩⟩
    · rw [attemptDone_eq_turnEnded]
      exact ⟨isolated_turnEnded hled hturn.gerr _, .inl rfl⟩
  · obtain ⟨hled, hturn, -⟩ := (ctlInv_attempt_iff (.inr hp)).mp h
    rw [verifyOnRsp, attemptDone_eq_turnEnded]
    exact ⟨isolated_turnEnded hled hturn.gerr _, .inl rfl⟩
  · exact absurd hw (by simp [hn])

/-- An RSP answers a next state, in every state (60 R271). -/
theorem execRsp_completes (r : Rsp) (s : State) : ∃ t, exec (.rsp r) s = .next t := by
  cases hw : isWait s.ctl.phase with
  | false => exact ⟨_, execRsp_of_not_wait hw⟩
  | true =>
    cases hp : s.ctl.phase with
    | detect => exact ⟨_, execRsp_detect r hp⟩
    | read => exact ⟨_, execRsp_read r hp⟩
    | write => exact ⟨_, execRsp_write r hp⟩
    | verify => exact ⟨_, execRsp_verify r hp⟩
    | _ => exact absurd hw (by rw [hp]; exact Bool.false_ne_true)

/-- Settles O49: the answer of each wait phase that a target can be in ends its turn, or is the WRITE that succeeded. -/
theorem failureIsolation : Obligations.FailureIsolation := by
  intro s r hinv hw hcur
  obtain ⟨t, ht⟩ := execRsp_completes r s
  obtain ⟨⟨hrec, hwf, hcur', hgerr, hrun⟩, hphase⟩ := execRsp_of_target hinv.ctl hw hcur ht
  exact ⟨t, ht, hphase, hrec, hwf, hcur', hgerr, hrun⟩

end Sys2Proof
end

section
/-! The course of a CHECK: which records its DETECT answers so far have made, event by event, whatever else is mixed in (44 R176 to
R186, 45 R200 to R207). -/

namespace Sys2Proof

open Machine

/-! ### The records that the answers make -/

/-- A record of a slot of which nothing is known, with the lamp `l`. -/
def blankRecord (l : LedMode) : SlotState := { SlotState.reset with ledMode := l }

/-- The record of slot `i` in a CHECK that has taken the answers `rs`: an answer that found no chip in slot 0 has aborted it (45 R207), and
else each slot that has its answer is what that answer and slot 0's size say (45 R203, R204). -/
def recordAfter (rs : List Rsp) (i : Slot) : SlotState :=
  match rs with
  | [] => blankRecord .off
  | d :: _ =>
    if reportsChip d then
      match rs[i.val]? with
      | some r => targetRecord r d.size
      | none => blankRecord .off
    else blankRecord .fastBlink

theorem recordAfter_of_aborted {d : Rsp} (h : ¬ reportsChip d) (rs : List Rsp) (i : Slot) :
    recordAfter (d :: rs) i = blankRecord .fastBlink := if_neg h

/-- Before its answer a slot's record is as START left it. -/
theorem recordAfter_of_not_answered {rs : List Rsp} (hd : ∀ d ∈ rs.head?, reportsChip d) {i : Slot} (hi : rs.length ≤ i.val) :
    recordAfter rs i = blankRecord .off := by
  cases rs with
  | nil => rfl
  | cons d rs =>
    simp only [recordAfter, if_pos (hd d rfl), List.getElem?_eq_none hi]

/-- The answer for slot `i`, the next to come, makes the record of slot `i`. -/
theorem recordAfter_append_self {rs : List Rsp} {r d : Rsp} (hd : d ∈ (rs ++ [r]).head?) (hpres : reportsChip d) {i : Slot}
    (hi : i.val = rs.length) : recordAfter (rs ++ [r]) i = targetRecord r d.size := by
  obtain ⟨tl, htl⟩ := List.head?_eq_some_iff.mp hd
  have hr : (d :: tl)[i.val]? = some r := by rw [← htl, hi, List.getElem?_concat_length]
  simp only [htl, recordAfter, if_pos hpres, hr]

/-- It makes no other. -/
theorem recordAfter_append_other {rs : List Rsp} (hd : ∀ d ∈ rs.head?, reportsChip d) {r : Rsp} (hr : rs = [] → reportsChip r)
    {i : Slot} (hi : i.val ≠ rs.length) : recordAfter (rs ++ [r]) i = recordAfter rs i := by
  cases rs with
  | nil => exact recordAfter_of_not_answered (by simpa using hr rfl) (by simp at hi ⊢; omega)
  | cons d rs =>
    have hget : (d :: (rs ++ [r]))[i.val]? = (d :: rs)[i.val]? := by
      rw [← List.cons_append]
      rcases Nat.lt_or_gt_of_ne hi with hlt | hgt
      · exact List.getElem?_append_left hlt
      · rw [List.getElem?_eq_none (Nat.le_of_lt hgt), List.getElem?_eq_none (by simpa using hgt)]
    simp only [List.cons_append, recordAfter, if_pos (hd d rfl), hget]

/-! ### Derived lamps -/

/-- The rule of a target's answer, with the lamp derived, is the record that 45 R204 lists. -/
theorem relamp_detectedRecord (r : Rsp) (z : ChipSize) (l : LedMode) :
    relamp (detectedRecord r z (blankRecord l)) .norm = targetRecord r z := by
  unfold detectedRecord detectedStatus targetRecord compareSize classify
  split_ifs <;> rfl

theorem relamp_targetRecord (r : Rsp) (z : ChipSize) : relamp (targetRecord r z) .norm = targetRecord r z := by
  rw [← relamp_detectedRecord r z .off]
  rfl

/-- Slot 0's good answer, with the lamp derived, gives what a target of its own size would get (45 R203). -/
theorem relamp_referenceFound {r : Rsp} (h : reportsChip r) :
    relamp { blankRecord .off with presence := .present, sizeMatch := .matching } .norm = targetRecord r r.size := by
  rw [targetRecord, if_pos h, if_pos rfl]
  rfl

theorem relamp_recordAfter {rs : List Rsp} (hd : ∀ d ∈ rs.head?, reportsChip d) (i : Slot) :
    relamp (recordAfter rs i) .norm = recordAfter rs i := by
  cases rs with
  | nil => rfl
  | cons d rs =>
    simp only [recordAfter, if_pos (hd d rfl)]
    split
    · exact relamp_targetRecord _ _
    · rfl

/-! ### A CHECK under way -/

/-- A CHECK that has taken the answers `rs` and goes on: the slot worked on is the next one to be answered, or has just been. -/
structure Checking (rs : List Rsp) (c : CtlRegs) : Prop where
  wf : c.wf = .check
  gerr : c.gerr = false
  act : c.act = false
  cur_le : c.cur.toNat ≤ 15
  place : ((c.phase = .select ∨ c.phase = .settle ∨ c.phase = .detect) ∧ c.cur.toNat = rs.length) ∨
    (c.phase = .next ∧ c.cur.toNat + 1 = rs.length)
  reference : ∀ d ∈ rs.head?, reportsChip d ∧ c.refSize = d.size
  records : ∀ i : Slot, recordAt c i = recordAfter rs i

/-- A CHECK that has taken the answers `rs` and is over: all sixteen, or one that aborted it. -/
structure CheckOver (rs : List Rsp) (c : CtlRegs) : Prop where
  phase : c.phase = .idle
  complete : rs.length = 16 ∨ ∃ d ∈ rs.head?, ¬ reportsChip d
  records : ∀ i : Slot, recordAt c i = recordAfter rs i

/-- What the end of a slot's turn writes beside the record array. -/
theorem slotDone_eq (c : CtlRegs) : slotDone c = { c with slot := (slotDone c).slot, phase := .next } := rfl

/-- The registers once slot 0's good answer in a CHECK is recorded (45 R203). -/
def referenceFound (r : Rsp) (c : CtlRegs) : CtlRegs :=
  { setRecord c 0 { recordAt c 0 with presence := .present, sizeMatch := .matching } with refSize := r.size, refValid := true }

theorem referenceFound_at (r : Rsp) (c : CtlRegs) (i : Slot) :
    recordAt (referenceFound r c) i =
      if 0 = i then { recordAt c 0 with presence := .present, sizeMatch := .matching } else recordAt c i := by
  rw [referenceFound, recordAt_mk, setRecord_at]

namespace Checking

variable {rs : List Rsp} {s t : State}

theorem phase_ne_idle {c : CtlRegs} (h : Checking rs c) : c.phase ≠ .idle := by
  rcases h.place with ⟨hp | hp | hp, -⟩ | ⟨hp, -⟩ <;> simp [hp]

theorem reportsChip_head {c : CtlRegs} (h : Checking rs c) : ∀ d ∈ rs.head?, reportsChip d := fun d hd => (h.reference d hd).1

/-- START clears what a CHECK reads (44 R186). -/
theorem start (hp : s.ctl.phase = .start) (hw : s.ctl.wf = .check) (h : exec .ctl s = .next t) :
    Checking [] t.ctl ∧ t.ctl.phase = .select := by
  rw [execCtl_start hp] at h
  cases h
  refine ⟨⟨?wf, ?gerr, ?act, ?cur_le, .inl ⟨.inl ?phase, ?cur⟩, by simp, fun i => startOnCtl_at_cleared (.inl hw)⟩, ?phase⟩ <;>
    rw [startOnCtl_ctl]
  case wf => exact hw
  case cur_le | cur => simp

/-- SELECT and SETTLE write none of the registers that the course of a CHECK is told by. -/
theorem select (h : Checking rs s.ctl) (hp : s.ctl.phase = .select) (ht : exec .ctl s = .next t) : Checking rs t.ctl := by
  have hn : ¬ (s.ctl.wf = .write ∧ 1 ≤ s.ctl.cur.toNat) := by simp [h.wf]
  have hlen : s.ctl.cur.toNat = rs.length := by simpa [hp] using h.place
  rw [execCtl_select hp, selectOnCtl_of_le (s := s.quiet) h.cur_le] at ht
  cases ht
  rw [State.withCtl_ctl, selectedRegs_of_not_target (c := addressed s.quiet.ctl) hn]
  exact { h with place := .inl ⟨.inr (.inl rfl), hlen⟩ }

theorem settle_counts (h : Checking rs s.ctl) (hp : s.ctl.phase = .settle) (hn : s.ctl.settleCtr ≠ 0) (ht : exec .ctl s = .next t) :
    Checking rs t.ctl := by
  rw [execCtl_settle hp, settleOnCtl_counts (s := s.quiet) hn] at ht
  cases ht
  exact { h with }

theorem settle_detects (h : Checking rs s.ctl) (hp : s.ctl.phase = .settle) (hn : s.ctl.settleCtr = 0) (ht : exec .ctl s = .next t) :
    Checking rs t.ctl ∧ t.ctl.phase = .detect := by
  have hlen : s.ctl.cur.toNat = rs.length := by simpa [hp] using h.place
  rw [execCtl_settle hp, settleOnCtl_detects (s := s.quiet) hn (.inr h.wf)] at ht
  cases ht
  exact ⟨{ h with place := .inl ⟨.inr (.inr rfl), hlen⟩ }, rfl⟩

/-- NEXT goes on to the slot whose answer is the next, and after the last slot to IDLE (44 R181). -/
theorem next (h : Checking rs s.ctl) (hp : s.ctl.phase = .next) (ht : exec .ctl s = .next t) :
    (Checking rs t.ctl ∧ t.ctl.phase = .select) ∨ CheckOver rs t.ctl := by
  have hlen : s.ctl.cur.toNat + 1 = rs.length := by simpa [hp] using h.place
  rw [execCtl_next hp] at ht
  rcases Nat.lt_or_ge s.ctl.cur.toNat 15 with hlt | hge
  · rw [nextOnCtl_to (s := s.quiet) (n := ⟨s.ctl.cur.toNat + 1, by omega⟩) rfl] at ht
    cases ht
    have hcur : (BitVec.ofNat 5 (s.ctl.cur.toNat + 1)).toNat = s.ctl.cur.toNat + 1 := by
      rw [BitVec.toNat_ofNat]
      omega
    have hsel : (if s.ctl.wf = .check ∨ (recordAt s.ctl ⟨s.ctl.cur.toNat + 1, by omega⟩).sizeMatch = .matching then Phase.select
        else .next) = .select := if_pos (.inl h.wf)
    exact .inl ⟨{ h with cur_le := hcur.trans_le hlt, place := .inl ⟨.inl hsel, hcur.trans hlen⟩ }, hsel⟩
  · have hlast : s.ctl.cur.toNat = 15 := Nat.le_antisymm h.cur_le hge
    rw [nextOnCtl_ends (s := s.quiet) hlast] at ht
    cases ht
    exact .inr ⟨rfl, .inl (by omega), h.records⟩

/-- A target's answer makes its record (45 R204). -/
theorem target_answered (h : Checking rs s.ctl) (hlen : s.ctl.cur.toNat = rs.length) (hcur : 1 ≤ s.ctl.cur.toNat) (r : Rsp) :
    Checking (rs ++ [r]) (turnEnded s.ctl (detectedRecord r s.ctl.refSize)) := by
  obtain ⟨d, tl, rfl⟩ : ∃ d tl, rs = d :: tl := List.exists_cons_of_length_pos (by omega)
  obtain ⟨hpres, hsize⟩ := h.reference d rfl
  have hrecords : ∀ i : Slot, recordAt (turnEnded s.ctl (detectedRecord r s.ctl.refSize)) i = recordAfter (d :: tl ++ [r]) i := by
    intro i
    rw [turnEnded_at h.gerr]
    by_cases hi : i.val = s.ctl.cur.toNat
    · rw [setCurRecord_of_slot hi, setRecord_at_self, h.records,
        recordAfter_of_not_answered h.reportsChip_head (hlen ▸ hi.ge), relamp_detectedRecord, hsize]
      exact (recordAfter_append_self (d := d) rfl hpres (hi.trans hlen)).symm
    · rw [setCurRecord_at_other _ _ hi, h.records, relamp_recordAfter h.reportsChip_head]
      exact (recordAfter_append_other h.reportsChip_head (by simp) (hlen ▸ hi)).symm
  rw [turnEnded_eq]
  exact { h with
    act := rfl
    place := .inr ⟨rfl, by simp [hlen]⟩
    reference := fun d' hd' => h.reference d' hd'
    records := hrecords }

/-- Slot 0's answer gives the reference size, or aborts (45 R203, R207). -/
theorem reference_answered (h : Checking [] s.ctl) (r : Rsp) :
    (Checking [r] (refDetectedInCheck r s).ctl ∧ (refDetectedInCheck r s).ctl.phase = .next) ∨
    CheckOver [r] (refDetectedInCheck r s).ctl := by
  have hblank : ∀ i : Slot, recordAt s.ctl i = blankRecord .off := h.records
  have hcur : s.ctl.cur.toNat = 0 := by
    rcases h.place with ⟨-, hcur⟩ | ⟨-, hcur⟩
    · exact hcur
    · exact absurd hcur (Nat.succ_ne_zero _)
  rcases refDetectedInCheck_cases r s with ⟨hpres, e⟩ | ⟨hno, e⟩ <;> rw [e, State.withCtl_ctl]
  · have hhead : ∀ d ∈ [r].head?, reportsChip d := by simpa using hpres
    have hrecords : ∀ i : Slot, recordAt (slotDone (referenceFound r s.ctl)) i = recordAfter [r] i := by
      intro i
      rw [slotDone_at, ctxOf_of_quiet (c := referenceFound r s.ctl) h.gerr h.act, referenceFound_at, hblank, hblank]
      split
      next hi =>
        rw [relamp_referenceFound hpres]
        exact (recordAfter_append_self (rs := []) (d := r) rfl hpres (by simp [← hi])).symm
      next hi => exact (recordAfter_of_not_answered hhead (Nat.one_le_iff_ne_zero.mpr fun h0 => hi (Fin.ext h0.symm))).symm
    change (Checking [r] (slotDone (referenceFound r s.ctl)) ∧ _) ∨ _
    rw [slotDone_eq]
    exact .inl ⟨{ h with
      place := .inr ⟨rfl, congrArg Nat.succ hcur⟩
      reference := fun d hd => ⟨hhead d hd, by cases hd; rfl⟩
      records := hrecords }, rfl⟩
  · refine .inr ⟨rfl, .inr ⟨r, rfl, hno⟩, fun i => ?_⟩
    rw [abortedWith, abortRegs_at, setRecord_at, recordAfter_of_aborted hno, hblank, hblank]
    split <;> rfl

/-- In DETECT every answer is the next slot's (44 R172). -/
theorem detect (h : Checking rs s.ctl) (hp : s.ctl.phase = .detect) {r : Rsp} (ht : exec (.rsp r) s = .next t) :
    (Checking (rs ++ [r]) t.ctl ∧ t.ctl.phase = .next) ∨ CheckOver (rs ++ [r]) t.ctl := by
  have hlen : s.ctl.cur.toNat = rs.length := by simpa [hp] using h.place
  rw [execRsp_detect r hp] at ht
  cases ht
  rcases detectOnRsp_cases r s.quiet with ⟨hcur, e⟩ | ⟨hcur, -, e⟩ | ⟨-, hw, -⟩ | ⟨-, hw, -⟩
  · rw [e, targetDetected_eq_turnEnded (s := s.quiet) h.act]
    exact .inl ⟨h.target_answered hlen hcur r, rfl⟩
  · obtain rfl : rs = [] := List.eq_nil_of_length_eq_zero (hlen.symm.trans (congrArg BitVec.toNat hcur))
    rw [e]
    exact reference_answered (s := s.quiet) h r
  · exact absurd (h.wf.symm.trans hw) (by decide)
  · exact absurd (h.wf.symm.trans hw) (by decide)

/-- An answer is taken in DETECT and nowhere else. -/
theorem outstanding_iff (h : Checking rs s.ctl) : outstanding s = true ↔ s.ctl.phase = .detect := by
  rcases h.place with ⟨hp | hp | hp, -⟩ | ⟨hp, -⟩ <;> simp [outstanding, hp, isWait]

/-- What any event but RESET does to a CHECK under way: an answer it takes is the next, and nothing else changes the records. -/
theorem event (h : Checking rs s.ctl) {i : Instr} (hi : i.isEvent = true) (hr : notReset i = true)
    (ht : exec i s = .next t) :
    Checking (rs ++ (takenBy i s).map Taken.rsp) t.ctl ∨ CheckOver (rs ++ (takenBy i s).map Taken.rsp) t.ctl := by
  have hsame : takenBy i s = [] → t.ctl = s.ctl → Checking (rs ++ (takenBy i s).map Taken.rsp) t.ctl := by
    intro htaken hctl
    rw [htaken, List.map_nil, List.append_nil, hctl]
    exact h
  rcases isEvent_cases hi with ⟨dip, resOk, rfl⟩ | rfl | rfl | ⟨rC, rW, rfl⟩ | ⟨r, rfl⟩
  · exact absurd hr Bool.false_ne_true
  · rw [show takenBy .ctl s = [] from rfl, List.map_nil, List.append_nil]
    rcases h.place with ⟨hp | hp | hp, -⟩ | ⟨hp, -⟩
    · exact .inl (h.select hp ht)
    · by_cases hn : s.ctl.settleCtr = 0
      · exact .inl (h.settle_detects hp hn ht).1
      · exact .inl (h.settle_counts hp hn ht)
    · rw [execCtl_of_wait (by rw [hp]; rfl)] at ht
      cases ht
      exact .inl h
    · exact (h.next hp ht).imp_left And.left
  · obtain ⟨hctl, -, -⟩ := execTick_writes ht
    exact .inl (hsame rfl hctl)
  · obtain ⟨-, -, -, hctl⟩ := execSample_writes ht
    exact .inl (hsame rfl (hctl h.phase_ne_idle))
  · cases hw : outstanding s with
    | true =>
      have htaken : (takenBy (.rsp r) s).map Taken.rsp = [r] := by simp [takenBy, hw]
      rw [htaken]
      exact (h.detect (h.outstanding_iff.mp hw) ht).imp_left And.left
    | false =>
      rw [execRsp_of_not_wait hw] at ht
      cases ht
      exact .inl (hsame (by simp [takenBy, hw]) rfl)

end Checking

/-! ### Runs to IDLE -/

/-- Everything a run to IDLE can be that has an event left. -/
theorem runWorkflow_cons_some {i : Instr} {es : List Instr} {s : State} {e : WorkflowEnd} (h : runWorkflow (i :: es) s = some e) :
    s.ctl.phase ≠ .idle ∧ ∃ u e', exec i s = .next u ∧ runWorkflow es u = some e' ∧
      e.taken = takenBy i s ++ e'.taken ∧ e.last = e'.last := by
  simp only [runWorkflow] at h
  split_ifs at h with hp
  split at h
  next u hu =>
    obtain ⟨e', he', rfl⟩ := Option.map_eq_some_iff.mp h
    exact ⟨hp, u, e', hu, he', rfl, rfl⟩
  all_goals cases h

/-- A run to IDLE that is there already takes nothing more. -/
theorem runWorkflow_of_idle {es : List Instr} {s : State} {e : WorkflowEnd} (hp : s.ctl.phase = .idle)
    (h : runWorkflow es s = some e) : e.taken = [] ∧ e.last = s := by
  cases es with
  | nil =>
    rw [runWorkflow, if_pos hp] at h
    cases h
    exact ⟨rfl, rfl⟩
  | cons i es => exact absurd hp (runWorkflow_cons_some h).1

/-- A CHECK under way that runs to IDLE has the records of all the answers taken (44 R186). -/
theorem Checking.over {rs : List Rsp} {es : List Instr} {s : State} {e : WorkflowEnd} (h : Checking rs s.ctl)
    (hes : ∀ i ∈ es, i.isEvent = true ∧ notReset i = true) (hrun : runWorkflow es s = some e) :
    CheckOver (rs ++ e.taken.map Taken.rsp) e.last.ctl := by
  induction es generalizing rs s e with
  | nil =>
    rw [runWorkflow, if_neg h.phase_ne_idle] at hrun
    cases hrun
  | cons i es ih =>
    obtain ⟨hi, hr⟩ := hes i List.mem_cons_self
    have hes' : ∀ j ∈ es, j.isEvent = true ∧ notReset j = true := fun j hj => hes j (List.mem_cons_of_mem i hj)
    obtain ⟨-, u, e', hu, hrest, htaken, hlast⟩ := runWorkflow_cons_some hrun
    rw [htaken, hlast, List.map_append, ← List.append_assoc]
    rcases h.event hi hr hu with hchecking | hover
    · exact ih hchecking hes' hrest
    · obtain ⟨hnone, hend⟩ := runWorkflow_of_idle hover.phase hrest
      rw [hnone, hend, List.map_nil, List.append_nil]
      exact hover

/-- In START every event but the CTL leaves the Controller as it was, and no answer is taken. -/
theorem exec_of_start {i : Instr} {s t : State} (hp : s.ctl.phase = .start) (hi : i.isEvent = true) (hr : notReset i = true)
    (h : exec i s = .next t) : takenBy i s = [] ∧ (i = .ctl ∨ t.ctl = s.ctl) := by
  have hwait : isWait s.ctl.phase = false := by rw [hp]; rfl
  rcases isEvent_cases hi with ⟨dip, resOk, rfl⟩ | rfl | rfl | ⟨rC, rW, rfl⟩ | ⟨r, rfl⟩
  · exact absurd hr Bool.false_ne_true
  · exact ⟨rfl, .inl rfl⟩
  · obtain ⟨hctl, -, -⟩ := execTick_writes h
    exact ⟨rfl, .inr hctl⟩
  · obtain ⟨-, -, -, hctl⟩ := execSample_writes h
    exact ⟨rfl, .inr (hctl (by simp [hp]))⟩
  · rw [execRsp_of_not_wait hwait] at h
    cases h
    exact ⟨by simp [takenBy, outstanding, hwait], .inr rfl⟩

/-- A CHECK run from START to IDLE has the records of its answers, whatever the state was and whatever events were mixed in. -/
theorem checkOver_of_runWorkflow {es : List Instr} {s : State} {e : WorkflowEnd} (hp : s.ctl.phase = .start) (hw : s.ctl.wf = .check)
    (hes : ∀ i ∈ es, i.isEvent = true ∧ notReset i = true) (hrun : runWorkflow es s = some e) :
    CheckOver (e.taken.map Taken.rsp) e.last.ctl := by
  induction es generalizing s e with
  | nil =>
    rw [runWorkflow, if_neg (by simp [hp])] at hrun
    cases hrun
  | cons i es ih =>
    obtain ⟨hi, hr⟩ := hes i List.mem_cons_self
    have hes' : ∀ j ∈ es, j.isEvent = true ∧ notReset j = true := fun j hj => hes j (List.mem_cons_of_mem i hj)
    obtain ⟨-, u, e', hu, hrest, htaken, hlast⟩ := runWorkflow_cons_some hrun
    obtain ⟨hnone, hctl⟩ := exec_of_start hp hi hr hu
    rw [htaken, hnone, hlast, List.nil_append]
    rcases hctl with rfl | hctl
    · exact (Checking.start hp hw hu).1.over hes' hrest
    · exact ih (hctl ▸ hp) (hctl ▸ hw) hes' hrest

/-! ### The bare sequence of a CHECK -/

/-- A run of two sequences passes through the end of the first. -/
theorem runInstrs_append_next {is js : List Instr} {s t : State} (h : runInstrs (is ++ js) s = .next t) :
    ∃ u, runInstrs is s = .next u ∧ runInstrs js u = .next t := by
  induction is generalizing s with
  | nil => exact ⟨s, rfl, h⟩
  | cons i is ih =>
    obtain ⟨u, hu, hrest⟩ := runInstrs_cons_next h
    obtain ⟨v, hv, hjs⟩ := ih hrest
    exact ⟨v, (runInstrs_cons hu).trans hv, hjs⟩

/-- In IDLE CTL events and answers leave the Controller as it was. -/
theorem runInstrs_of_idle {es : List Instr} {s t : State} (hp : s.ctl.phase = .idle) (hes : ∀ i ∈ es, i = .ctl ∨ ∃ r, i = .rsp r)
    (h : runInstrs es s = .next t) : t.ctl = s.ctl := by
  induction es generalizing s with
  | nil => cases h; rfl
  | cons i es ih =>
    obtain ⟨u, hu, hrest⟩ := runInstrs_cons_next h
    have hctl : u.ctl = s.ctl := by
      rcases hes i List.mem_cons_self with rfl | ⟨r, rfl⟩
      · rw [execCtl_idle hp] at hu
        cases hu
        rfl
      · rw [execRsp_of_not_wait (by rw [hp]; rfl)] at hu
        cases hu
        rfl
    exact (ih (hctl ▸ hp) (fun j hj => hes j (List.mem_cons_of_mem i hj)) hrest).trans hctl

/-- An aborted CHECK takes no notice of further answers. -/
theorem CheckOver.append {rs : List Rsp} {c : CtlRegs} (h : CheckOver rs c) (hlen : rs.length < 16) (r : Rsp) :
    CheckOver (rs ++ [r]) c := by
  obtain ⟨d, hd, hno⟩ := h.complete.resolve_left hlen.ne
  obtain ⟨tl, rfl⟩ := List.head?_eq_some_iff.mp hd
  refine ⟨h.phase, .inr ⟨d, rfl, hno⟩, fun i => ?_⟩
  rw [h.records, recordAfter_of_aborted hno, List.cons_append, recordAfter_of_aborted hno]

/-- The settling time of a slot in a CHECK. -/
theorem Checking.settle_run {rs : List Rsp} {a n : Nat} {s t : State} (h : Checking rs s.ctl) (hs : Settling a n s)
    (hrun : runInstrs (List.replicate n .ctl) s = .next t) : Checking rs t.ctl ∧ Settling a 0 t := by
  induction n generalizing s with
  | zero => cases hrun; exact ⟨h, hs⟩
  | succ n ih =>
    obtain ⟨u, hu, hrest⟩ := runInstrs_cons_next hrun
    have hne : s.ctl.settleCtr ≠ 0 := fun h0 => by
      have hctr := hs.settleCtr
      simp [h0] at hctr
    exact ih (h.settle_counts hs.phase hne hu) (hs.exec_ctl hu) hrest

/-- From SELECT, T_SETTLE + 2 CTL events lead to DETECT (44 R185). -/
theorem Checking.select_run {rs : List Rsp} {s t : State} (h : Checking rs s.ctl) (hp : s.ctl.phase = .select)
    (hrun : runInstrs (List.replicate (s.tSettle.toNat + 2) .ctl) s = .next t) : Checking rs t.ctl ∧ t.ctl.phase = .detect := by
  obtain ⟨u, hu, hrest⟩ := runInstrs_cons_next hrun
  rw [List.replicate_succ'] at hrest
  obtain ⟨v, hv, hlast⟩ := runInstrs_append_next hrest
  obtain ⟨w, hw, hnil⟩ := runInstrs_cons_next hlast
  cases hnil
  obtain ⟨hchecking, hsettled⟩ := (h.select hp hu).settle_run (settling_of_select hp h.cur_le hu) hv
  exact hchecking.settle_detects hsettled.phase (BitVec.eq_of_toNat_eq hsettled.settleCtr) hw

theorem runInstrs_tSettle {es : List Instr} {s t : State} (hes : ∀ i ∈ es, notReset i = true) (h : runInstrs es s = .next t) :
    t.tSettle = s.tSettle := by
  induction es generalizing s with
  | nil => cases h; rfl
  | cons i es ih =>
    obtain ⟨u, hu, hrest⟩ := runInstrs_cons_next h
    exact (ih (fun j hj => hes j (List.mem_cons_of_mem i hj)) hrest).trans (hostFrame_exec (hes i List.mem_cons_self) hu).tSettle

theorem mem_checkTurn {n : Nat} {r : Rsp} {i : Instr} (h : i ∈ checkTurn n r) : i = .ctl ∨ i = .rsp r := by
  simp only [checkTurn, List.mem_append, List.mem_replicate, List.mem_cons, List.not_mem_nil, or_false] at h
  rcases h with ⟨-, rfl⟩ | rfl | rfl
  · exact .inl rfl
  · exact .inr rfl
  · exact .inl rfl

/-- Between two turns of the bare sequence: the CHECK is about to select the next slot, or is over. -/
def BetweenTurns (n : Nat) (rs : List Rsp) (s : State) : Prop :=
  s.tSettle.toNat = n ∧ ((Checking rs s.ctl ∧ s.ctl.phase = .select) ∨ CheckOver rs s.ctl)

/-- A turn of the bare sequence takes its answer, or comes after an abort. -/
theorem BetweenTurns.turn {n : Nat} {rs : List Rsp} {s t : State} (h : BetweenTurns n rs s) (hlen : rs.length < 16) {r : Rsp}
    (hrun : runInstrs (checkTurn n r) s = .next t) : BetweenTurns n (rs ++ [r]) t := by
  obtain ⟨rfl, hplace⟩ := h
  refine ⟨?settle, ?place⟩
  case settle =>
    refine congrArg BitVec.toNat (runInstrs_tSettle (fun i hi => ?_) hrun)
    rcases mem_checkTurn hi with rfl | rfl <;> rfl
  case place =>
    rcases hplace with ⟨hchecking, hp⟩ | hover
    · obtain ⟨u, hu, hrest⟩ := runInstrs_append_next hrun
      obtain ⟨v, hv, hlast⟩ := runInstrs_cons_next hrest
      obtain ⟨w, hw, hnil⟩ := runInstrs_cons_next hlast
      cases hnil
      obtain ⟨hdetect, hpd⟩ := hchecking.select_run hp hu
      rcases hdetect.detect hpd hv with ⟨hnext, hpn⟩ | hover
      · exact hnext.next hpn hw
      · rw [execCtl_idle hover.phase] at hw
        cases hw
        exact .inr hover
    · rw [runInstrs_of_idle hover.phase (fun i hi => (mem_checkTurn hi).imp_right fun e => ⟨r, e⟩) hrun]
      exact .inr (hover.append hlen r)

theorem BetweenTurns.turns {n : Nat} {rs answers : List Rsp} {s t : State} (h : BetweenTurns n rs s)
    (hlen : rs.length + answers.length ≤ 16) (hrun : runInstrs (answers.map (checkTurn n)).flatten s = .next t) :
    BetweenTurns n (rs ++ answers) t := by
  induction answers generalizing rs s with
  | nil =>
    cases hrun
    rwa [List.append_nil]
  | cons r answers ih =>
    obtain ⟨u, hu, hrest⟩ := runInstrs_append_next hrun
    rw [List.append_cons]
    simp only [List.length_cons] at hlen
    exact ih (h.turn (by omega) hu) (by simp; omega) hrest

/-- The bare sequence of a CHECK leaves the records of its sixteen answers, whatever the state was. -/
theorem recordAt_of_checkWorkflow {s t : State} {answers : Vector Rsp 16} (hp : s.ctl.phase = .start) (hw : s.ctl.wf = .check)
    (hrun : runInstrs (checkWorkflow s.tSettle.toNat answers) s = .next t) (i : Slot) :
    recordAt t.ctl i = recordAfter answers.toList i := by
  obtain ⟨u, hu, hrest⟩ := runInstrs_cons_next hrun
  have hsettle : u.tSettle.toNat = s.tSettle.toNat := congrArg BitVec.toNat (hostFrame_exec rfl hu).tSettle
  have hstart : BetweenTurns s.tSettle.toNat [] u := ⟨hsettle, .inl (Checking.start hp hw hu)⟩
  obtain ⟨-, ⟨hchecking, -⟩ | hover⟩ := hstart.turns (by simp) hrest
  · exact hchecking.records i
  · exact hover.records i

/-- Settles O58: either end of either pair has the records that the answers make, in which nothing of the state before START occurs. -/
theorem checkIsIdempotent : Obligations.CheckIsIdempotent := by
  refine ⟨fun s s' t t' answers hp hw hp' hw' h h' i => ?_, fun s s' e e' hend hend' hsame i => ?_⟩
  · rw [recordAt_of_checkWorkflow hp hw h, recordAt_of_checkWorkflow hp' hw' h']
  · obtain ⟨hp, hw, es, hes, hrun⟩ := hend
    obtain ⟨hp', hw', es', hes', hrun'⟩ := hend'
    rw [(checkOver_of_runWorkflow hp hw hes hrun).records, (checkOver_of_runWorkflow hp' hw' hes' hrun').records, hsame]

end Sys2Proof
end

section
/-! The commands by themselves, and the DETECT answers (45 R201 to R205, 46 R223, R227, 47 R250, R259). -/

namespace Sys2Proof.Machine

/-! ### The commands and STORE -/

/-- A command by itself: its pins, its wait phase, and nothing else (47 R252). -/
theorem issueCommand_quiet (s : State) (cmd : FaCmd) :
    issueCommand s.quiet cmd =
      { s with ctl := { s.ctl with phase := commandPhase s.ctl.phase cmd }, out := requestPins cmd (commandImage s.ctl cmd) } := rfl

/-- Outside FATAL an operation that is one command issues it. -/
theorem whileRunning_issueCommand {s : State} (hp : s.ctl.phase ≠ .fatal) (cmd : FaCmd) :
    whileRunning s (fun u => .next (issueCommand u cmd)) = .next
      { s with ctl := { s.ctl with phase := commandPhase s.ctl.phase cmd }, out := requestPins cmd (commandImage s.ctl cmd) } := by
  rw [whileRunning_of_ne hp, issueCommand_quiet]

theorem execStore_of_running {s : State} (hp : s.ctl.phase ≠ .fatal) :
    exec .store s = .next { s with out := { OutPins.quiet with archReq := true, archImage := s.ctl.refImage } } := by
  rw [exec, execStore, whileRunning_of_ne hp, emitStore_eq]
  rfl

/-! ### The DETECT answers -/

theorem exec_phaseInstr_rsp {s : State} {p : Phase} (hp : s.ctl.phase = p) (r : Rsp) :
    exec (phaseInstr (.rsp r) p) s = exec (.rsp r) s := by
  rw [← hp, ← execRsp_eq_phaseInstr]

theorem detectOnRsp_in_check {s : State} (hcur : s.ctl.cur = 0) (hw : s.ctl.wf = .check) (r : Rsp) :
    detectOnRsp r s = refDetectedInCheck r s := by
  simp only [detectOnRsp, isTarget_eq_false_iff.mpr hcur, hw, Bool.false_eq_true, if_false]

theorem detectOnRsp_in_write {s : State} (hcur : s.ctl.cur = 0) (hw : s.ctl.wf = .write) (r : Rsp) :
    detectOnRsp r s = refDetectedInWrite r s := by
  simp only [detectOnRsp, isTarget_eq_false_iff.mpr hcur, hw, Bool.false_eq_true, if_false]

/-- With no chip in slot 0 either workflow is aborted in the same way (45 R203, 46 R222). -/
theorem detectOnRsp_of_no_chip {s : State} {r : Rsp} (hcur : s.ctl.cur = 0) (hw : s.ctl.wf ≠ .none) (hno : ¬ reportsChip r) :
    detectOnRsp r s = s.withCtl (abortedWith s.ctl { recordAt s.ctl 0 with presence := .absent } .noChipDetected) := by
  cases hwf : s.ctl.wf with
  | none => exact absurd hwf hw
  | check =>
    rw [detectOnRsp_in_check hcur hwf]
    exact ((refDetectedInCheck_cases r s).resolve_left fun hpres => hno hpres.1).2
  | write =>
    rw [detectOnRsp_in_write hcur hwf]
    exact ((refDetectedInWrite_cases r s).resolve_left fun hpres => hno hpres.1).2

end Sys2Proof.Machine

namespace Sys2Proof

open Machine

/-- An abort writes no status but the one recorded in slot 0 (44 R182). -/
theorem otherStatus_abortedWith (c : CtlRegs) (r0 : SlotState) (code : ErrCode) : otherStatus c (abortedWith c r0 code) 0 :=
  otherStatus_rederive_setRecord c _ 0 r0 rfl

theorem aborted_abortedWith (c : CtlRegs) (r0 : SlotState) (code : ErrCode) : aborted c (abortedWith c r0 code) code :=
  ⟨rfl, fun i => by rw [abortedWith, abortRegs_at]⟩

theorem statusIs_abortedWith (c : CtlRegs) (r0 : SlotState) (code : ErrCode) :
    statusIs (recordAt (abortedWith c r0 code) 0) r0.presence r0.sizeMatch r0.lastOpResult := by
  rw [abortedWith, abortRegs_at, setRecord_at_self]
  exact ⟨rfl, rfl, rfl⟩

/-- On a record with no operation result, the lamp too is the listed one. -/
theorem relamp_detectedRecord_of_none {ri : SlotState} (h : ri.lastOpResult = .none) (r : Rsp) (z : ChipSize) :
    relamp (detectedRecord r z ri) .norm = targetRecord r z := by
  rw [← relamp_detectedRecord r z .off]
  simp only [relamp, detectedRecord, blankRecord, SlotState.reset, h]

/-- Settles O50: each is an operation of a running agent that issues one command or the store request. -/
theorem commandsAndStore : Obligations.CommandsAndStore := fun _ hp =>
  ⟨whileRunning_issueCommand hp .detect, whileRunning_issueCommand hp .read, whileRunning_issueCommand hp .write,
   whileRunning_issueCommand hp .verify, execStore_of_running hp⟩

/-! ### Registers after an answer -/

/-- Slot 0's good answer in a CHECK, record by record. -/
theorem slotDone_referenceFound_at (r : Rsp) (c : CtlRegs) (i : Slot) :
    recordAt (slotDone (referenceFound r c)) i =
      relamp (if 0 = i then { recordAt c 0 with presence := .present, sizeMatch := .matching } else recordAt c i)
        (ctxOf (referenceFound r c) i) := by
  rw [slotDone_at, referenceFound_at]

theorem otherStatus_referenceFound (r : Rsp) (c : CtlRegs) : otherStatus c (slotDone (referenceFound r c)) 0 := by
  intro j hj
  rw [slotDone_referenceFound_at, if_neg hj.symm]
  exact sameStatus_relamp _ _

/-- A target's answer, record by record. -/
theorem slotDone_detected_at (r : Rsp) (c : CtlRegs) (i j : Slot) :
    recordAt (slotDone (setRecord c i (detectedRecord r c.refSize (recordAt c i)))) j =
      relamp (if i = j then detectedRecord r c.refSize (recordAt c i) else recordAt c j) (ctxOf c j) := by
  rw [slotDone_at, setRecord_at]
  rfl

theorem otherStatus_detected (r : Rsp) (c : CtlRegs) (i : Slot) :
    otherStatus c (slotDone (setRecord c i (detectedRecord r c.refSize (recordAt c i)))) i := by
  intro j hj
  rw [slotDone_detected_at, if_neg hj.symm]
  exact sameStatus_relamp _ _

/-- The status a target's answer leaves is that of the record which 45 R204 lists. -/
theorem statusIs_detectedRecord (r : Rsp) (z : ChipSize) (ri : SlotState) (x : LedCtx) :
    statusIs (relamp (detectedRecord r z ri) x) (targetRecord r z).presence (targetRecord r z).sizeMatch ri.lastOpResult := by
  rw [← relamp_detectedRecord r z .off]
  exact ⟨rfl, rfl, rfl⟩

/-- Settles O40: the answer reports a chip and slot 0's turn ends, or it does not and the CHECK is aborted. -/
theorem referenceDetectedInCheck : Obligations.ReferenceDetectedInCheck := by
  refine ⟨phaseCode_phaseInstr .detect, fun s r hp hcur hw => ?_⟩
  have hexec : exec (.rsp r) s = .next (refDetectedInCheck r s.quiet) := by
    rw [execRsp_detect r hp, detectOnRsp_in_check (s := s.quiet) hcur hw]
  refine ⟨_, hexec, (exec_phaseInstr_rsp hp r).trans hexec, ?_⟩
  rcases refDetectedInCheck_cases r s.quiet with ⟨hpres, e⟩ | ⟨hno, e⟩ <;> rw [e]
  · have hzero := slotDone_referenceFound_at r s.ctl 0
    rw [if_pos rfl] at hzero
    refine ⟨onlyCtl_withCtl s _, otherStatus_referenceFound r s.ctl, lampsDerived_slotDone (referenceFound r s.ctl),
      fun _ => ⟨slotDone_eq (referenceFound r s.ctl), ?status, fun hg ha hnone => ?lamp⟩, fun hno => absurd hpres hno⟩
    case status =>
      change statusIs (recordAt (slotDone (referenceFound r s.ctl)) 0) _ _ _
      rw [hzero]
      exact ⟨rfl, rfl, rfl⟩
    case lamp =>
      change (recordAt (slotDone (referenceFound r s.ctl)) 0).ledMode = _
      rw [hzero, ctxOf_of_quiet (c := referenceFound r s.ctl) hg ha]
      simp [ledModeOf, hnone]
  · exact ⟨onlyCtl_withCtl s _, otherStatus_abortedWith s.ctl _ _, lampsDerived_abortRegs _ _, fun hpres => absurd hpres hno,
      fun _ => ⟨aborted_abortedWith s.ctl _ _, statusIs_abortedWith s.ctl _ _⟩⟩

/-- Settles O42: the record of slot `cur` is rewritten by the answer's class, and the lamps are derived. -/
theorem targetDetected : Obligations.TargetDetected := by
  refine ⟨phaseCode_phaseInstr .detect, fun s r i hp hi hpos => ?_⟩
  have hexec : exec (.rsp r) s =
      .next (s.quiet.withCtl (slotDone (setRecord s.ctl i (detectedRecord r s.ctl.refSize (recordAt s.ctl i))))) := by
    rw [execRsp_detect r hp, detectOnRsp_of_target (s := s.quiet) (hi ▸ hpos), targetDetected_eq,
      setCurRecord_of_slot (c := s.quiet.ctl) hi]
    rfl
  have hrec := slotDone_detected_at r s.ctl i i
  rw [if_pos rfl] at hrec
  refine ⟨_, hexec, (exec_phaseInstr_rsp hp r).trans hexec, onlyCtl_withCtl s _, slotDone_eq _, otherStatus_detected r s.ctl i,
    lampsDerived_slotDone _, ?status, fun hg ha hnone => ?record⟩ <;> rw [State.withCtl_ctl, hrec]
  case status => exact statusIs_detectedRecord r s.ctl.refSize _ _
  case record =>
    rw [ctxOf_of_quiet hg ha]
    exact relamp_detectedRecord_of_none hnone r s.ctl.refSize

end Sys2Proof
end

section
/-! Runs to IDLE with any events mixed in: what an event can be to the Controller, invariants along `runWorkflow`, and sequences that do
not reach IDLE before their end (44 R171, R172, 47 R253, R254). -/

namespace Sys2Proof

open Machine

/-! ### One event -/

/-- To the Controller at work an event is nothing, the CTL of a phase that does not wait, or the answer of one that does. -/
theorem event_cases {i : Instr} {s t : State} (hi : i.isEvent = true) (hr : notReset i = true) (hp : s.ctl.phase ≠ .idle)
    (h : exec i s = .next t) :
    (takenBy i s = [] ∧ t.ctl = s.ctl) ∨
    (takenBy i s = [] ∧ i = .ctl ∧ isWait s.ctl.phase = false) ∨
    (∃ r, i = .rsp r ∧ isWait s.ctl.phase = true ∧
      takenBy i s = [{ phase := s.ctl.phase, slot := s.ctl.cur.toNat, rsp := r }]) := by
  rcases isEvent_cases hi with ⟨dip, resOk, rfl⟩ | rfl | rfl | ⟨rC, rW, rfl⟩ | ⟨r, rfl⟩
  · exact absurd hr Bool.false_ne_true
  · cases hw : isWait s.ctl.phase with
    | false => exact .inr (.inl ⟨rfl, rfl, rfl⟩)
    | true =>
      rw [execCtl_of_wait hw] at h
      cases h
      exact .inl ⟨rfl, rfl⟩
  · obtain ⟨hctl, -, -⟩ := execTick_writes h
    exact .inl ⟨rfl, hctl⟩
  · obtain ⟨-, -, -, hctl⟩ := execSample_writes h
    exact .inl ⟨rfl, hctl hp⟩
  · cases hw : isWait s.ctl.phase with
    | false =>
      rw [execRsp_of_not_wait hw] at h
      cases h
      exact .inl ⟨by simp [takenBy, outstanding, hw], rfl⟩
    | true => exact .inr (.inr ⟨r, rfl, rfl, by simp [takenBy, outstanding, hw]⟩)

/-- A CTL raises `arch_req` in ARCHIVE only (46 R225). -/
theorem execCtl_archReq {s t : State} (hp : s.ctl.phase ≠ .archive) (h : exec .ctl s = .next t) : t.out.archReq = false := by
  rcases execCtl_next_cases h with ⟨-, rfl⟩ | ⟨-, rfl⟩ | ⟨-, hk⟩ | ⟨-, rfl⟩ | ⟨ha, -⟩ | ⟨-, rfl⟩ | ⟨-, rfl⟩
  · unfold bootOnCtl
    split <;> rfl
  · rfl
  · rcases selectOnCtl_next hk with ⟨-, rfl⟩ | ⟨-, rfl⟩ <;> rfl
  · rcases settleOnCtl_cases s.quiet with ⟨-, e⟩ | ⟨cmd, -, e⟩ <;> rw [e] <;> rfl
  · exact absurd ha hp
  · rcases nextOnCtl_cases s.quiet with ⟨-, e⟩ | ⟨-, p, -, e⟩ <;> rw [e] <;> rfl
  · rfl

theorem detectOnRsp_archReq (r : Rsp) (s : State) : (detectOnRsp r s).out.archReq = s.out.archReq := by
  rcases detectOnRsp_cases r s with ⟨-, e⟩ | ⟨-, -, e⟩ | ⟨-, -, e⟩ | ⟨-, -, e⟩ <;> rw [e]
  · rw [targetDetected_eq]
    rfl
  · rcases refDetectedInCheck_cases r s with ⟨-, e⟩ | ⟨-, e⟩ <;> rw [e] <;> rfl
  · rcases refDetectedInWrite_cases r s with ⟨-, e⟩ | ⟨-, e⟩ <;> rw [e] <;> rfl

/-- No answer raises `arch_req`. -/
theorem execRsp_archReq {r : Rsp} {s t : State} (h : exec (.rsp r) s = .next t) : t.out.archReq = false := by
  rcases execRsp_next_cases h with ⟨-, rfl⟩ | ⟨-, rfl⟩ | ⟨-, rfl⟩ | ⟨-, rfl⟩ | ⟨-, rfl⟩
  · exact detectOnRsp_archReq r s.quiet
  · rcases readOnRsp_cases r s.quiet with ⟨-, e⟩ | ⟨-, e⟩ <;> rw [e] <;> rfl
  · rcases writeOnRsp_cases r s.quiet with ⟨-, e⟩ | ⟨-, e⟩ <;> rw [e]
    · rfl
    · rw [attemptDone_eq]
      rfl
  · rw [verifyOnRsp, attemptDone_eq]
    rfl
  · rfl

/-- No event but the CTL of ARCHIVE raises `arch_req` (46 R225, 47 R259). -/
theorem exec_archReq {i : Instr} {s t : State} (hi : i.isEvent = true) (hp : s.ctl.phase ≠ .archive) (h : exec i s = .next t) :
    t.out.archReq = false := by
  rcases isEvent_cases hi with ⟨dip, resOk, rfl⟩ | rfl | rfl | ⟨rC, rW, rfl⟩ | ⟨r, rfl⟩
  · rcases execReset_next h with ⟨-, rfl⟩ | ⟨-, rfl⟩ <;> rfl
  · exact execCtl_archReq hp h
  · rcases execTick_next h with ⟨-, rfl⟩ | ⟨-, -, rfl⟩ | ⟨-, -, rfl⟩
    · rfl
    · rw [lampTick_eq]
      rfl
    · rcases bootTick_cases s.quiet with ⟨-, e⟩ | ⟨-, e⟩ <;> rw [e] <;> rfl
  · rcases execSample_next h with ⟨-, rfl⟩ | ⟨-, rfl⟩
    · rfl
    · rw [sampleButtons_out]
      rfl
  · exact execRsp_archReq h

/-- How often the event that led to `t` emitted `arch_req`. -/
def storesOf (t : State) : Nat := if t.out.archReq then 1 else 0

theorem storesOf_exec {i : Instr} {s t : State} (hi : i.isEvent = true) (hp : s.ctl.phase ≠ .archive) (h : exec i s = .next t) :
    storesOf t = 0 := by
  rw [storesOf, exec_archReq hi hp h]
  rfl

/-! ### Runs to IDLE -/

/-- A run to IDLE that takes a step is that step and the rest of the run. -/
theorem runWorkflow_cons {i : Instr} {is : List Instr} {s u : State} (hp : s.ctl.phase ≠ .idle) (hu : exec i s = .next u) :
    runWorkflow (i :: is) s = (runWorkflow is u).map fun e =>
      { e with taken := takenBy i s ++ e.taken, stores := storesOf u + e.stores } := by
  simp only [runWorkflow, if_neg hp, hu, storesOf]

/-- What every event but RESET keeps, of the answers taken and the STOREs emitted so far and the state, a run to IDLE keeps. -/
theorem runWorkflow_induction {P : List Taken → Nat → State → Prop}
    (hstep : ∀ l n s t i, P l n s → i.isEvent = true → notReset i = true → s.ctl.phase ≠ .idle → exec i s = .next t →
      P (l ++ takenBy i s) (n + storesOf t) t)
    {es : List Instr} {s : State} {e : WorkflowEnd} {l : List Taken} {n : Nat} (hP : P l n s)
    (hes : ∀ i ∈ es, i.isEvent = true ∧ notReset i = true) (hrun : runWorkflow es s = some e) :
    P (l ++ e.taken) (n + e.stores) e.last ∧ e.last.ctl.phase = .idle := by
  induction es generalizing l n s e with
  | nil =>
    simp only [runWorkflow] at hrun
    split_ifs at hrun with hidle
    cases hrun
    exact ⟨by simpa using hP, hidle⟩
  | cons i es ih =>
    obtain ⟨hi, hr⟩ := hes i List.mem_cons_self
    obtain ⟨hp, u, -, hu, -⟩ := runWorkflow_cons_some hrun
    rw [runWorkflow_cons hp hu] at hrun
    obtain ⟨e', hrest, rfl⟩ := Option.map_eq_some_iff.mp hrun
    rw [← List.append_assoc, ← Nat.add_assoc]
    exact ih (hstep l n s u i hP hi hr hp hu) (fun j hj => hes j (List.mem_cons_of_mem i hj)) hrest

/-! ### Sequences on the way -/

/-- The events `es` run from `s` to `t`, and none of them finds the engine in IDLE. -/
inductive Leads : List Instr → State → State → Prop where
  | nil (s : State) : Leads [] s s
  | cons {i : Instr} {es : List Instr} {s u t : State} (hp : s.ctl.phase ≠ .idle) (hu : exec i s = .next u) (h : Leads es u t) :
      Leads (i :: es) s t

theorem Leads.single {i : Instr} {s t : State} (hp : s.ctl.phase ≠ .idle) (h : exec i s = .next t) : Leads [i] s t :=
  .cons hp h (.nil t)

theorem Leads.append {es fs : List Instr} {s u t : State} (h : Leads es s u) (k : Leads fs u t) : Leads (es ++ fs) s t := by
  induction h with
  | nil => exact k
  | cons hp hu _ ih => exact .cons hp hu (ih k)

theorem Leads.runInstrs {es : List Instr} {s t : State} (h : Leads es s t) : runInstrs es s = .next t := by
  induction h with
  | nil => rfl
  | cons _ hu _ ih => rw [runInstrs_cons hu, ih]

/-- Where such a sequence ends in IDLE it is a run to IDLE. -/
theorem Leads.runWorkflow {es : List Instr} {s t : State} (h : Leads es s t) (hidle : t.ctl.phase = .idle) :
    ∃ e, runWorkflow es s = some e ∧ e.last = t := by
  induction h with
  | nil => exact ⟨_, if_pos hidle, rfl⟩
  | cons hp hu _ ih =>
    obtain ⟨e, he, hlast⟩ := ih hidle
    exact ⟨_, (runWorkflow_cons hp hu).trans (congrArg (Option.map _) he), hlast⟩

end Sys2Proof
end

section
/-! A slot's turn from its SELECT to its DETECT answer (44 R178 to R180, 45 R200, R201): the registers it keeps, and how many CTL events
it takes. -/

namespace Sys2Proof

open Machine

/-- The slot worked on is to be detected, or was detected just now: no error is shown, no operation is in flight, no image is held, and the
address and the counter are as far as the phase says. `f` is the fatal code, which nothing here writes. -/
structure QuietTurn (f : ErrCode) (c : CtlRegs) : Prop where
  phase : c.phase = .select ∨ c.phase = .settle ∨ c.phase = .detect ∨ c.phase = .next
  /-- SETTLE ends in a DETECT, not in a WRITE (44 R179). -/
  detects : c.cur = 0 ∨ c.wf = .check
  cur_le : c.cur.toNat ≤ 15
  gerr : c.gerr = false
  act : c.act = false
  refImage : c.refImage = none
  runErr : c.runErr = .ok
  fatalCode : c.fatalCode = f
  address : c.phase ≠ .select → c.muxAddr.toNat = c.cur.toNat
  settled : c.phase = .detect ∨ c.phase = .next → c.settleCtr = 0

/-- What SELECT and SETTLE of such a turn leave as it was. -/
structure SameCourse (c d : CtlRegs) : Prop where
  slot : d.slot = c.slot
  wf : d.wf = c.wf
  cur : d.cur = c.cur
  refValid : d.refValid = c.refValid
  refSize : d.refSize = c.refSize

theorem SameCourse.trans {c d e : CtlRegs} (h : SameCourse c d) (k : SameCourse d e) : SameCourse c e :=
  ⟨k.slot.trans h.slot, k.wf.trans h.wf, k.cur.trans h.cur, k.refValid.trans h.refValid, k.refSize.trans h.refSize⟩

theorem SameCourse.recordAt {c d : CtlRegs} (h : SameCourse c d) (i : Slot) : recordAt d i = recordAt c i :=
  recordAt_congr h.slot i

/-- START begins such a turn (44 R176). -/
theorem quietTurn_startOnCtl (s : State) : QuietTurn s.ctl.fatalCode (startOnCtl s).ctl := by
  rw [startOnCtl_ctl]
  exact
    { phase := .inl rfl, detects := .inl rfl, cur_le := Nat.zero_le _, gerr := rfl, act := rfl, refImage := rfl, runErr := rfl
      fatalCode := rfl, address := fun hp => absurd rfl hp, settled := by simp }

namespace QuietTurn

variable {f : ErrCode} {s t : State}

theorem phase_ne_idle {c : CtlRegs} (h : QuietTurn f c) : c.phase ≠ .idle := by
  rcases h.phase with hp | hp | hp | hp <;> simp [hp]

theorem phase_ne_archive {c : CtlRegs} (h : QuietTurn f c) : c.phase ≠ .archive := by
  rcases h.phase with hp | hp | hp | hp <;> simp [hp]

/-- In a wait phase it waits for the DETECT answer. -/
theorem phase_of_wait {c : CtlRegs} (h : QuietTurn f c) (hw : isWait c.phase = true) : c.phase = .detect := by
  rcases h.phase with hp | hp | hp | hp <;> simp_all [isWait]

theorem not_writes_target {c : CtlRegs} (h : QuietTurn f c) : ¬ (c.wf = .write ∧ 1 ≤ c.cur.toNat) := by
  rintro ⟨hw, hcur⟩
  rcases h.detects with h0 | hc
  · simp [h0] at hcur
  · exact absurd (hc.symm.trans hw) (by decide)

theorem selected (h : QuietTurn f s.ctl) (hp : s.ctl.phase = .select) :
    ∃ u, exec .ctl s = .next u ∧ QuietTurn f u.ctl ∧ SameCourse s.ctl u.ctl ∧ u.ctl.phase = .settle ∧ u.ctl.settleCtr = s.tSettle := by
  have haddr : (s.ctl.cur.setWidth 4).toNat = s.ctl.cur.toNat := by
    have hcur := h.cur_le
    bv_omega
  refine ⟨_, (execCtl_select hp).trans (selectOnCtl_of_le (s := s.quiet) h.cur_le), ?_⟩
  rw [State.withCtl_ctl, selectedRegs_of_not_target (c := addressed s.quiet.ctl) h.not_writes_target]
  exact ⟨{ h with phase := .inr (.inl rfl), address := fun _ => haddr, settled := by simp },
    ⟨rfl, rfl, rfl, rfl, rfl⟩, rfl, rfl⟩

theorem counted (h : QuietTurn f s.ctl) (hp : s.ctl.phase = .settle) (hn : s.ctl.settleCtr ≠ 0) :
    ∃ u, exec .ctl s = .next u ∧ QuietTurn f u.ctl ∧ SameCourse s.ctl u.ctl ∧ u.ctl.phase = .settle ∧
      u.ctl.settleCtr = s.ctl.settleCtr - 1 := by
  refine ⟨_, execCtl_settle hp, ?_⟩
  rw [settleOnCtl_counts (s := s.quiet) hn, State.withCtl_ctl]
  exact ⟨{ h with settled := by simp [hp] }, ⟨rfl, rfl, rfl, rfl, rfl⟩, hp, rfl⟩

theorem detecting (h : QuietTurn f s.ctl) (hp : s.ctl.phase = .settle) (hn : s.ctl.settleCtr = 0) :
    ∃ u, exec .ctl s = .next u ∧ QuietTurn f u.ctl ∧ SameCourse s.ctl u.ctl ∧ u.ctl.phase = .detect := by
  refine ⟨_, execCtl_settle hp, ?_⟩
  rw [settleOnCtl_detects (s := s.quiet) hn h.detects]
  exact ⟨{ h with phase := .inr (.inr (.inl rfl)), address := fun _ => h.address (by simp [hp]), settled := fun _ => hn },
    ⟨rfl, rfl, rfl, rfl, rfl⟩, rfl⟩

/-- Before the request every CTL brings it one event nearer (44 R185). -/
theorem advances (h : QuietTurn f s.ctl) (hp : s.ctl.phase = .select ∨ s.ctl.phase = .settle) :
    ∃ u, exec .ctl s = .next u ∧ QuietTurn f u.ctl ∧ SameCourse s.ctl u.ctl ∧ u.ctl.phase ≠ .next ∧
      runMeasure s = runMeasure u + 1 := by
  rcases hp with hp | hp
  · obtain ⟨u, hu, hq, hsame, hpu, hctr⟩ := h.selected hp
    exact ⟨u, hu, hq, hsame, by simp [hpu], by simp [runMeasure, hp, hpu, hctr]⟩
  · by_cases hn : s.ctl.settleCtr = 0
    · obtain ⟨u, hu, hq, hsame, hpu⟩ := h.detecting hp hn
      exact ⟨u, hu, hq, hsame, by simp [hpu], by simp [runMeasure, hp, hpu, hn]⟩
    · obtain ⟨u, hu, hq, hsame, hpu, hctr⟩ := h.counted hp hn
      have hdown : s.ctl.settleCtr.toNat = (s.ctl.settleCtr - 1).toNat + 1 := by bv_omega
      exact ⟨u, hu, hq, hsame, by simp [hpu], by simp only [runMeasure, hp, hpu, hctr, hdown]⟩

/-- So the events that RUN counts lead to DETECT. -/
theorem leads_to_detect {n : Nat} (h : QuietTurn f s.ctl) (hp : s.ctl.phase ≠ .next) (hn : runMeasure s = n) :
    ∃ u, Leads (List.replicate n .ctl) s u ∧ QuietTurn f u.ctl ∧ SameCourse s.ctl u.ctl ∧ u.ctl.phase = .detect := by
  induction n generalizing s with
  | zero =>
    have hdetect : s.ctl.phase = .detect := by
      rcases h.phase with hp' | hp' | hp' | hp' <;> simp_all [runMeasure]
    exact ⟨s, .nil s, h, ⟨rfl, rfl, rfl, rfl, rfl⟩, hdetect⟩
  | succ n ih =>
    have hbefore : s.ctl.phase = .select ∨ s.ctl.phase = .settle := by
      rcases h.phase with hp' | hp' | hp' | hp' <;> simp_all [runMeasure]
    obtain ⟨u, hu, hq, hsame, hpu, hm⟩ := h.advances hbefore
    obtain ⟨v, hleads, hqv, hsame', hpv⟩ := ih hq hpu (Nat.succ.inj (hm.symm.trans hn))
    exact ⟨v, .cons h.phase_ne_idle hu hleads, hqv, hsame.trans hsame', hpv⟩

end QuietTurn

end Sys2Proof
end

section
/-! A CHECK that is not aborted, whatever is mixed in: the answers it takes and the registers it ends with (45 R203 to R206, 44 R185). -/

namespace Sys2Proof

open Machine

/-! ### The answers of a CHECK -/

/-- The answers `rs` as a CHECK takes them: each in DETECT, for one slot after the other. -/
def detectAnswers (rs : List Rsp) : List Taken := rs.mapIdx fun n r => { phase := .detect, slot := n, rsp := r }

theorem detectAnswers_append (rs : List Rsp) (r : Rsp) :
    detectAnswers (rs ++ [r]) = detectAnswers rs ++ [{ phase := .detect, slot := rs.length, rsp := r }] := by
  simp [detectAnswers, List.mapIdx_append]

/-- Each slot has its own answer and no other. -/
theorem filter_detectAnswers (rs : List Rsp) (n : Nat) :
    ((detectAnswers rs).filter fun a => a.slot = n) = (rs[n]?.map fun r => { phase := .detect, slot := n, rsp := r }).toList := by
  induction rs using List.reverseRecOn with
  | nil => rfl
  | append_singleton rs r ih =>
    rw [detectAnswers_append, List.filter_append, ih]
    rcases Nat.lt_trichotomy n rs.length with hlt | rfl | hgt
    · rw [List.getElem?_append_left hlt]
      simp [hlt.ne']
    · simp
    · have hnone : (rs ++ [r])[n]? = none := List.getElem?_eq_none (by simpa using hgt)
      rw [hnone, List.getElem?_eq_none hgt.le]
      simp [hgt.ne]

/-- The record of a slot that has its answer is what that answer and slot 0's size say. -/
theorem recordAfter_of_answered {rs : List Rsp} {d r : Rsp} {i : Slot} (hd : rs.head? = some d) (hpres : reportsChip d)
    (hr : rs[i.val]? = some r) : recordAfter rs i = targetRecord r d.size := by
  obtain ⟨tl, rfl⟩ := List.head?_eq_some_iff.mp hd
  simp only [recordAfter, if_pos hpres, hr]

theorem targetRecord_of_reference {d : Rsp} (h : reportsChip d) :
    targetRecord d d.size = { presence := .present, sizeMatch := .matching, lastOpResult := .none, ledMode := .slowBlink } := by
  rw [targetRecord, if_pos h, if_pos rfl]

theorem checkedRecord_targetRecord (r : Rsp) (z : ChipSize) : checkedRecord (targetRecord r z) := by
  unfold targetRecord
  split_ifs <;> simp [checkedRecord]

/-! ### The turns of a CHECK -/

/-- A CHECK under way that has taken the answers `rs`, with the registers of a quiet turn. -/
structure CheckTurn (f : ErrCode) (rs : List Rsp) (c : CtlRegs) : Prop where
  checking : Checking rs c
  quiet : QuietTurn f c
  refValid : rs ≠ [] → c.refValid = true

/-- A DETECT answer in a CHECK ends the slot's turn, or aborts as slot 0's with no chip (45 R203, R204, R207). -/
theorem QuietTurn.answered_in_check {f : ErrCode} {s : State} (h : QuietTurn f s.ctl) (hp : s.ctl.phase = .detect)
    (hw : s.ctl.wf = .check) (hv : 1 ≤ s.ctl.cur.toNat → s.ctl.refValid = true) (r : Rsp) :
    (QuietTurn f (detectOnRsp r s).ctl ∧ (detectOnRsp r s).ctl.phase = .next ∧ (detectOnRsp r s).ctl.refValid = true) ∨
    ((s.ctl.cur = 0 ∧ ¬ reportsChip r) ∧ (detectOnRsp r s).ctl.phase = .idle ∧ (detectOnRsp r s).ctl.gerr = true) := by
  have haddr := h.address (by simp [hp])
  have hctr := h.settled (.inl hp)
  rcases detectOnRsp_cases r s with ⟨hcur, e⟩ | ⟨hcur, -, e⟩ | ⟨-, hw', -⟩ | ⟨-, hw', -⟩
  · rw [e, targetDetected_eq_turnEnded h.act, State.withCtl_ctl, turnEnded_eq]
    exact .inl ⟨{ h with
      phase := .inr (.inr (.inr rfl)), act := rfl, address := fun _ => haddr, settled := fun _ => hctr }, rfl, hv hcur⟩
  · rw [e]
    rcases refDetectedInCheck_cases r s with ⟨-, e'⟩ | ⟨hno, e'⟩ <;> rw [e', State.withCtl_ctl]
    · change (QuietTurn f (slotDone (referenceFound r s.ctl)) ∧ _) ∨ _
      rw [slotDone_eq]
      exact .inl ⟨{ h with phase := .inr (.inr (.inr rfl)), address := fun _ => haddr, settled := fun _ => hctr }, rfl, rfl⟩
    · exact .inr ⟨⟨hcur, hno⟩, rfl, rfl⟩
  · exact absurd (hw.symm.trans hw') (by decide)
  · exact absurd (hw.symm.trans hw') (by decide)

namespace CheckTurn

variable {f : ErrCode} {rs : List Rsp} {s t : State}

theorem start (hp : s.ctl.phase = .start) (hw : s.ctl.wf = .check) (h : exec .ctl s = .next t) :
    CheckTurn s.ctl.fatalCode [] t.ctl ∧ t.ctl.phase = .select := by
  obtain ⟨hchecking, hsel⟩ := Checking.start hp hw h
  rw [execCtl_start hp] at h
  obtain rfl := Host.Outcome.next.inj h
  exact ⟨⟨hchecking, quietTurn_startOnCtl s.quiet, fun hne => absurd rfl hne⟩, hsel⟩

/-- Before the answer the slot worked on is the next one to be answered. -/
theorem cur_eq {c : CtlRegs} (h : CheckTurn f rs c) (hp : c.phase ≠ .next) : c.cur.toNat = rs.length := by
  rcases h.checking.place with ⟨-, hcur⟩ | ⟨hn, -⟩
  · exact hcur
  · exact absurd hn hp

/-- SELECT and SETTLE keep all that a CHECK is told by. -/
theorem of_sameCourse {c d : CtlRegs} (h : CheckTurn f rs c) (hp : c.phase ≠ .next) (hsame : SameCourse c d) (hq : QuietTurn f d)
    (hpd : d.phase ≠ .next) : CheckTurn f rs d where
  checking :=
    { wf := hsame.wf.trans h.checking.wf
      gerr := hq.gerr
      act := hq.act
      cur_le := hq.cur_le
      place := .inl ⟨by simpa [hpd] using hq.phase, by rw [hsame.cur, h.cur_eq hp]⟩
      reference := fun d' hd => by rw [hsame.refSize]; exact h.checking.reference d' hd
      records := fun i => (hsame.recordAt i).trans (h.checking.records i) }
  quiet := hq
  refValid := fun hne => hsame.refValid.trans (h.refValid hne)

/-- NEXT goes on to the next slot, and after slot 15 ends the CHECK (44 R181). -/
theorem next (h : CheckTurn f rs s.ctl) (hp : s.ctl.phase = .next) (ht : exec .ctl s = .next t) :
    (CheckTurn f rs t.ctl ∧ t.ctl.phase = .select) ∨ (s.ctl.cur.toNat = 15 ∧ t.ctl = endWorkflow s.ctl) := by
  have hnext := h.checking.next hp ht
  rw [execCtl_next hp] at ht
  rcases Nat.lt_or_ge s.ctl.cur.toNat 15 with hlt | hge
  · rw [nextOnCtl_to (s := s.quiet) (n := ⟨s.ctl.cur.toNat + 1, by omega⟩) rfl] at ht
    have hsel : t.ctl.phase = .select := by
      cases ht
      exact if_pos (.inl h.checking.wf)
    obtain ⟨hchecking, -⟩ := hnext.resolve_right fun hover => absurd (hsel.symm.trans hover.phase) (by decide)
    refine .inl ⟨⟨hchecking, ?_, ?_⟩, hsel⟩
    · cases ht
      exact { h.quiet with
        phase := .inl hsel
        detects := .inr h.checking.wf
        cur_le := hchecking.cur_le
        address := fun hne => absurd hsel hne
        settled := by
          rintro (hd | hn)
          · exact absurd (hsel.symm.trans hd) (by decide)
          · exact absurd (hsel.symm.trans hn) (by decide) }
    · cases ht
      exact h.refValid
  · have hlast : s.ctl.cur.toNat = 15 := Nat.le_antisymm h.quiet.cur_le hge
    rw [nextOnCtl_ends (s := s.quiet) hlast] at ht
    cases ht
    exact .inr ⟨hlast, rfl⟩

/-- A CTL brings the CHECK on, or is the last. -/
theorem ctl (h : CheckTurn f rs s.ctl) (hw : isWait s.ctl.phase = false) (ht : exec .ctl s = .next t) :
    CheckTurn f rs t.ctl ∨ (s.ctl.phase = .next ∧ s.ctl.cur.toNat = 15 ∧ t.ctl = endWorkflow s.ctl) := by
  have hbefore (hp : s.ctl.phase = .select ∨ s.ctl.phase = .settle) : CheckTurn f rs t.ctl := by
    obtain ⟨u, hu, hq, hsame, hpu, -⟩ := h.quiet.advances hp
    obtain rfl : u = t := Host.Outcome.next.inj (hu.symm.trans ht)
    exact h.of_sameCourse (by rcases hp with hp | hp <;> simp [hp]) hsame hq hpu
  rcases h.quiet.phase with hp | hp | hp | hp
  · exact .inl (hbefore (.inl hp))
  · exact .inl (hbefore (.inr hp))
  · exact absurd hw (by simp [hp, isWait])
  · exact (h.next hp ht).imp And.left fun hend => ⟨hp, hend⟩

/-- An answer ends the slot's turn, or aborts as slot 0's with no chip. -/
theorem answered (h : CheckTurn f rs s.ctl) (hp : s.ctl.phase = .detect) {r : Rsp} (ht : exec (.rsp r) s = .next t) :
    (CheckTurn f (rs ++ [r]) t.ctl ∧ t.ctl.phase = .next) ∨
    ((rs = [] ∧ ¬ reportsChip r) ∧ t.ctl.phase = .idle ∧ t.ctl.gerr = true) := by
  have hlen := h.cur_eq (by simp [hp])
  have hnext := h.checking.detect hp ht
  have hv (hcur : 1 ≤ s.ctl.cur.toNat) : s.ctl.refValid = true := h.refValid (List.ne_nil_of_length_pos (by omega))
  rw [execRsp_detect r hp] at ht
  cases ht
  rcases h.quiet.answered_in_check (s := s.quiet) hp h.checking.wf hv r with ⟨hq, hpn, hvalid⟩ | ⟨⟨hcur, hno⟩, hidle, hgerr⟩
  · obtain ⟨hchecking, -⟩ := hnext.resolve_right fun hover => absurd (hpn.symm.trans hover.phase) (by decide)
    exact .inl ⟨⟨hchecking, hq, fun _ => hvalid⟩, hpn⟩
  · exact .inr ⟨⟨List.eq_nil_of_length_eq_zero (hlen.symm.trans (congrArg BitVec.toNat hcur)), hno⟩, hidle, hgerr⟩

end CheckTurn

/-! ### The whole CHECK -/

/-- A CHECK from START on, as far as its answers and its registers tell it: before its first CTL, in some slot's turn, complete, or
aborted. -/
inductive CheckCourse (f : ErrCode) : List Taken → Nat → State → Prop where
  | start {s : State} (hp : s.ctl.phase = .start) (hw : s.ctl.wf = .check) (hf : s.ctl.fatalCode = f) : CheckCourse f [] 0 s
  | turn {rs : List Rsp} {s : State} (h : CheckTurn f rs s.ctl) : CheckCourse f (detectAnswers rs) 0 s
  | complete {rs : List Rsp} {c : CtlRegs} {s : State} (h : CheckTurn f rs c) (hp : c.phase = .next) (hcur : c.cur.toNat = 15)
      (he : s.ctl = endWorkflow c) : CheckCourse f (detectAnswers rs) 0 s
  | aborted {l : List Taken} {n : Nat} {s : State} (hp : s.ctl.phase = .idle) (hg : s.ctl.gerr = true) : CheckCourse f l n s

theorem CheckCourse.event {f : ErrCode} {l : List Taken} {n : Nat} {s t : State} {i : Instr} (h : CheckCourse f l n s)
    (hi : i.isEvent = true) (hr : notReset i = true) (hp : s.ctl.phase ≠ .idle) (ht : exec i s = .next t) :
    CheckCourse f (l ++ takenBy i s) (n + storesOf t) t := by
  cases h with
  | start hs hw hf =>
    rw [storesOf_exec hi (by simp [hs]) ht]
    rcases event_cases hi hr hp ht with ⟨hnone, hctl⟩ | ⟨hnone, rfl, -⟩ | ⟨r, -, hwait, -⟩
    · rw [hnone]
      exact .start (hctl ▸ hs) (hctl ▸ hw) (hctl ▸ hf)
    · rw [hnone]
      exact .turn (rs := []) (hf ▸ (CheckTurn.start hs hw ht).1)
    · exact absurd hwait (by simp [hs, isWait])
  | @turn rs _ h =>
    rw [storesOf_exec hi h.quiet.phase_ne_archive ht]
    rcases event_cases hi hr hp ht with ⟨hnone, hctl⟩ | ⟨hnone, rfl, hwait⟩ | ⟨r, rfl, hwait, htaken⟩
    · rw [hnone, List.append_nil]
      exact .turn (hctl ▸ h)
    · rw [hnone, List.append_nil]
      rcases h.ctl hwait ht with h' | ⟨hpn, hcur, he⟩
      · exact .turn h'
      · exact .complete h hpn hcur he
    · have hpd := h.quiet.phase_of_wait hwait
      rcases h.answered hpd ht with ⟨h', -⟩ | ⟨-, hidle, hgerr⟩
      · rw [htaken, hpd, h.cur_eq (by simp [hpd]), ← detectAnswers_append]
        exact .turn h'
      · exact .aborted hidle hgerr
  | complete _ _ _ he => exact absurd (by rw [he]; rfl) hp
  | aborted hidle _ => exact absurd hidle hp

/-- In IDLE with no global error shown the CHECK is complete. -/
theorem CheckCourse.complete_of_idle {f : ErrCode} {l : List Taken} {n : Nat} {s : State} (h : CheckCourse f l n s)
    (hidle : s.ctl.phase = .idle) (hg : s.ctl.gerr = false) :
    n = 0 ∧ ∃ rs c, l = detectAnswers rs ∧ s.ctl = endWorkflow c ∧ CheckTurn f rs c ∧ c.phase = .next ∧ c.cur.toNat = 15 := by
  cases h with
  | start hp => exact absurd (hp.symm.trans hidle) (by decide)
  | turn h => exact absurd hidle h.quiet.phase_ne_idle
  | complete h hp hcur he => exact ⟨rfl, _, _, rfl, he, h, hp, hcur⟩
  | aborted _ hgerr => exact absurd (hg.symm.trans hgerr) (by decide)

/-- All sixteen answers are taken by then, the first of them for a chip of the size that is held. -/
theorem CheckTurn.answers {f : ErrCode} {rs : List Rsp} {c : CtlRegs} (h : CheckTurn f rs c) (hp : c.phase = .next)
    (hcur : c.cur.toNat = 15) : rs.length = 16 ∧ ∃ d, rs.head? = some d ∧ reportsChip d ∧ c.refSize = d.size := by
  have hlen : rs.length = 16 := by
    rcases h.checking.place with ⟨hp' | hp' | hp', -⟩ | ⟨-, hlen⟩
    · exact absurd (hp.symm.trans hp') (by decide)
    · exact absurd (hp.symm.trans hp') (by decide)
    · exact absurd (hp.symm.trans hp') (by decide)
    · omega
  obtain ⟨d, tl, rfl⟩ : ∃ d tl, rs = d :: tl := List.exists_cons_of_length_pos (by omega)
  exact ⟨hlen, d, rfl, h.checking.reference d rfl⟩

/-- The registers a complete CHECK leaves (45 R206). -/
theorem CheckTurn.endWorkflow_eq {f : ErrCode} {rs : List Rsp} {c : CtlRegs} (h : CheckTurn f rs c) (hp : c.phase = .next)
    (hcur : c.cur.toNat = 15) (hne : rs ≠ []) :
    endWorkflow c =
      { slot := (endWorkflow c).slot, phase := .idle, wf := .none, cur := 15, settleCtr := 0, gerr := false, act := false,
        refValid := true, refSize := c.refSize, refImage := none, runErr := .ok, fatalCode := f, muxAddr := 15 } := by
  have hcur' : c.cur = 15 := BitVec.eq_of_toNat_eq hcur
  have haddr : c.muxAddr = 15 := BitVec.eq_of_toNat_eq ((h.quiet.address (by simp [hp])).trans hcur)
  rw [endWorkflow, hcur', h.quiet.settled (.inr hp), h.quiet.gerr, h.quiet.act, h.refValid hne, h.quiet.runErr, h.quiet.fatalCode,
    haddr]

/-! ### The bare sequence of a CHECK -/

theorem count_checkTurns (n : Nat) (rs : List Rsp) : ((rs.map (checkTurn n)).flatten).count .ctl = rs.length * (n + 3) := by
  induction rs with
  | nil => simp
  | cons r rs ih =>
    rw [List.map_cons, List.flatten_cons, List.count_append, ih, checkTurn, List.count_append, List.count_replicate_self,
      List.length_cons, Nat.succ_mul]
    simp
    omega

theorem length_checkTurns (n : Nat) (rs : List Rsp) : ((rs.map (checkTurn n)).flatten).length = rs.length * (n + 4) := by
  simp [List.length_flatten, checkTurn, Function.comp_def]

theorem isEvent_of_mem_checkWorkflow {n : Nat} {answers : Vector Rsp 16} {i : Instr} (h : i ∈ checkWorkflow n answers) :
    i.isEvent = true ∧ notReset i = true := by
  simp only [checkWorkflow, List.mem_cons, List.mem_flatten, List.mem_map] at h
  rcases h with rfl | ⟨_, ⟨r, -, rfl⟩, hi⟩
  · exact ⟨rfl, rfl⟩
  · rcases mem_checkTurn hi with rfl | rfl <;> exact ⟨rfl, rfl⟩

/-- A turn of the bare sequence takes its answer and goes on to the next slot, or to IDLE after the last. -/
theorem CheckTurn.leads_turn {f : ErrCode} {rs : List Rsp} {s : State} {r : Rsp} (h : CheckTurn f rs s.ctl) (hp : s.ctl.phase = .select)
    (hpres : rs = [] → reportsChip r) :
    ∃ t, Leads (checkTurn s.tSettle.toNat r) s t ∧
      ((CheckTurn f (rs ++ [r]) t.ctl ∧ t.ctl.phase = .select) ∨
       (rs.length = 15 ∧ t.ctl.phase = .idle ∧ t.ctl.gerr = false)) := by
  have hpn : s.ctl.phase ≠ .next := by simp [hp]
  obtain ⟨u, hu, hqu, hsame, hpu⟩ := h.quiet.leads_to_detect hpn (n := s.tSettle.toNat + 2) (by simp [runMeasure, hp])
  have hturn := h.of_sameCourse hpn hsame hqu (by simp [hpu])
  obtain ⟨v, hv⟩ := execRsp_completes r u
  obtain ⟨hdone, hpv⟩ := (hturn.answered hpu hv).resolve_right fun hab => hab.1.2 (hpres hab.1.1)
  have hw := execCtl_next hpv
  refine ⟨_, hu.append (.cons hqu.phase_ne_idle hv (.single hdone.quiet.phase_ne_idle hw)), ?_⟩
  refine (hdone.next hpv hw).imp_right fun hend => ?_
  obtain ⟨hcur, he⟩ := hend
  obtain ⟨hlen, -⟩ := hdone.answers hpv hcur
  rw [he]
  exact ⟨by simpa using hlen, rfl, hdone.quiet.gerr⟩

theorem CheckTurn.leads_turns {f : ErrCode} {n : Nat} {rs answers : List Rsp} {s : State} (h : CheckTurn f rs s.ctl)
    (hp : s.ctl.phase = .select) (hn : s.tSettle.toNat = n) (hlen : rs.length + answers.length = 16)
    (hpres : ∀ d ∈ (rs ++ answers).head?, reportsChip d) :
    ∃ t, Leads (answers.map (checkTurn n)).flatten s t ∧ t.ctl.phase = .idle ∧ t.ctl.gerr = false := by
  induction answers generalizing rs s with
  | nil =>
    have hcur := h.cur_eq (by simp [hp])
    have hle := h.quiet.cur_le
    simp at hlen
    omega
  | cons r answers ih =>
    subst hn
    obtain ⟨u, hu, hnext⟩ := h.leads_turn hp (r := r) fun hnil => hpres r (by simp [hnil])
    have hset : u.tSettle = s.tSettle :=
      runInstrs_tSettle (fun i hi => by rcases mem_checkTurn hi with rfl | rfl <;> rfl) hu.runInstrs
    rw [List.map_cons, List.flatten_cons]
    simp only [List.length_cons] at hlen
    rcases hnext with ⟨hturn, hpu⟩ | ⟨hlast, hidle, hgerr⟩
    · obtain ⟨t, ht, hend⟩ := ih hturn hpu (congrArg BitVec.toNat hset) (by simp; omega) (by simpa using hpres)
      exact ⟨t, hu.append ht, hend⟩
    · obtain rfl : answers = [] := List.eq_nil_of_length_eq_zero (by omega)
      exact ⟨u, hu.append (.nil u), hidle, hgerr⟩

/-- The bare sequence whose first answer reports a chip is a run to IDLE that is not aborted. -/
theorem runWorkflow_checkWorkflow {s : State} {answers : Vector Rsp 16} (hp : s.ctl.phase = .start) (hw : s.ctl.wf = .check)
    (hpres : reportsChip answers[0]) :
    ∃ e, runWorkflow (checkWorkflow s.tSettle.toNat answers) s = some e ∧ e.last.ctl.gerr = false ∧
      runInstrs (checkWorkflow s.tSettle.toNat answers) s = .next e.last := by
  obtain ⟨u, hstart⟩ : ∃ u, exec .ctl s = .next u := ⟨_, execCtl_start hp⟩
  obtain ⟨hturn, hsel⟩ := CheckTurn.start hp hw hstart
  have hset : u.tSettle.toNat = s.tSettle.toNat := congrArg BitVec.toNat (hostFrame_exec rfl hstart).tSettle
  obtain ⟨t, ht, hidle, hgerr⟩ := hturn.leads_turns hsel hset (answers := answers.toList) (by simp)
    (by simpa [List.head?_eq_getElem?] using hpres)
  have hleads : Leads (checkWorkflow s.tSettle.toNat answers) s t := .cons (by simp [hp]) hstart ht
  obtain ⟨e, he, rfl⟩ := hleads.runWorkflow hidle
  exact ⟨e, he, hgerr, hleads.runInstrs⟩

/-- What every CHECK that is not aborted ends with, whatever events are mixed in (45 R206). -/
theorem checkResult_of_workflowEnds {s : State} {e : WorkflowEnd} (h : workflowEnds .check s e) (hg : e.last.ctl.gerr = false) :
    ∃ d : Rsp, e.takenAt 0 = [{ phase := .detect, slot := 0, rsp := d }] ∧ reportsChip d ∧ e.stores = 0 ∧
      recordAt e.last.ctl 0 = { presence := .present, sizeMatch := .matching, lastOpResult := .none, ledMode := .slowBlink } ∧
      (∀ i : Slot, 1 ≤ i.val →
        checkedRecord (recordAt e.last.ctl i) ∧
        ∃ r : Rsp, e.takenAt i = [{ phase := .detect, slot := i.val, rsp := r }] ∧ recordAt e.last.ctl i = targetRecord r d.size) ∧
      e.last.ctl =
        { slot := e.last.ctl.slot, phase := .idle, wf := .none, cur := 15, settleCtr := 0, gerr := false, act := false,
          refValid := true, refSize := d.size, refImage := none, runErr := .ok, fatalCode := s.ctl.fatalCode, muxAddr := 15 } := by
  obtain ⟨hp, hw, es, hes, hrun⟩ := h
  obtain ⟨hcourse, hidle⟩ := runWorkflow_induction (P := CheckCourse s.ctl.fatalCode)
    (fun _ _ _ _ _ h hi hr hp ht => h.event hi hr hp ht) (.start hp hw rfl) hes hrun
  obtain ⟨hstores, rs, c, htaken, he, hturn, hpn, hcur⟩ := hcourse.complete_of_idle hidle hg
  obtain ⟨hlen, d, hd, hpres, hsize⟩ := hturn.answers hpn hcur
  have hslot (i : Slot) : ∃ r, rs[i.val]? = some r ∧ e.takenAt i = [{ phase := .detect, slot := i.val, rsp := r }] ∧
      recordAt e.last.ctl i = targetRecord r d.size := by
    have hr : rs[i.val]? = some rs[i.val] := List.getElem?_eq_getElem _
    refine ⟨_, hr, ?_, ?_⟩
    · rw [WorkflowEnd.takenAt, ← List.nil_append e.taken, htaken, filter_detectAnswers, hr]
      rfl
    · rw [he, endWorkflow_at, hturn.checking.records, recordAfter_of_answered hd hpres hr]
  have hregs := hturn.endWorkflow_eq hpn hcur (fun hnil => by simp [hnil] at hd)
  rw [hsize, ← he] at hregs
  obtain ⟨d', hd', htaken0, hrec0⟩ := hslot 0
  obtain rfl : d' = d := Option.some.inj (hd'.symm.trans ((List.head?_eq_getElem? ..).symm.trans hd))
  refine ⟨d', htaken0, hpres, (Nat.zero_add _).symm.trans hstores, hrec0.trans (targetRecord_of_reference hpres), fun i _ => ?_, hregs⟩
  obtain ⟨r, -, htakeni, hreci⟩ := hslot i
  exact ⟨hreci ▸ checkedRecord_targetRecord r d'.size, r, htakeni, hreci⟩

/-- Settles O55: the bare sequence is one of the runs to IDLE, and its records are those of its sixteen answers. -/
theorem checkWorkflowResult : Obligations.CheckWorkflowResult := by
  refine ⟨fun s answers hp hw hpres => ?_, fun s e h hg => checkResult_of_workflowEnds h hg⟩
  obtain ⟨e, he, hg, hrun⟩ := runWorkflow_checkWorkflow hp hw hpres
  obtain ⟨_, -, -, -, -, -, hregs⟩ :=
    checkResult_of_workflowEnds ⟨hp, hw, _, fun _ hi => isEvent_of_mem_checkWorkflow hi, he⟩ hg
  have hrecord (i : Slot) : recordAt e.last.ctl i = targetRecord answers[i] answers[0].size := by
    rw [recordAt_of_checkWorkflow hp hw hrun]
    exact recordAfter_of_answered (by simp [List.head?_eq_getElem?]) hpres (by simp)
  refine ⟨?_, ?_, e.last, hrun, (hrecord 0).trans (targetRecord_of_reference hpres), fun i _ => hrecord i, ?_⟩
  · rw [checkWorkflow, List.count_cons_self, count_checkTurns, Vector.length_toList, Nat.add_comm]
  · rw [checkWorkflow, List.length_cons, length_checkTurns, Vector.length_toList]
    omega
  · rw [hregs]
    exact ⟨rfl, rfl, rfl, rfl, rfl, rfl, rfl⟩

end Sys2Proof
end

section
/-! A workflow aborted at slot 0, whatever is mixed in: no chip there, or a WRITE whose READ fails (44 R182, 45 R207, 46 R232). -/

namespace Sys2Proof

open Machine

/-! ### Slot 0's answers -/

/-- The targets' records are as START left them: cleared for a CHECK, with their status as it was for a WRITE (44 R176). -/
structure TargetsUntouched (c0 : CtlRegs) (w : Workflow) (c : CtlRegs) : Prop where
  cleared : w = .check → ∀ i : Slot, 1 ≤ i.val → statusIs (recordAt c i) .absent .unknown .none
  kept : w = .write → otherStatus c0 c 0

theorem TargetsUntouched.of_otherStatus {c0 c d : CtlRegs} {w : Workflow} (h : TargetsUntouched c0 w c) (k : otherStatus c d 0) :
    TargetsUntouched c0 w d := by
  refine ⟨fun hw i hi => ?_, fun hw i hi => ?_⟩
  · obtain ⟨hp, hm, hr⟩ := k i (fun h0 => by simp [h0] at hi)
    obtain ⟨hp', hm', hr'⟩ := h.cleared hw i hi
    exact ⟨hp.trans hp', hm.trans hm', hr.trans hr'⟩
  · obtain ⟨hp, hm, hr⟩ := k i hi
    obtain ⟨hp', hm', hr'⟩ := h.kept hw i hi
    exact ⟨hp.trans hp', hm.trans hm', hr.trans hr'⟩

theorem otherStatus_of_slot {c d : CtlRegs} (h : d.slot = c.slot) (i : Slot) : otherStatus c d i := fun j _ => by
  rw [recordAt_congr h]
  exact sameStatus_refl _

/-- The Controller waits for an answer of slot 0, on its address, with the reference size it has so far. -/
structure OnReference (f : ErrCode) (valid : Bool) (size : ChipSize) (c : CtlRegs) : Prop where
  cur : c.cur = 0
  settleCtr : c.settleCtr = 0
  muxAddr : c.muxAddr = 0
  refValid : c.refValid = valid
  refSize : c.refSize = size
  fatalCode : c.fatalCode = f

/-- A workflow `w` that START began with the registers `c0`, up to slot 0's DETECT answer. -/
structure Opening (c0 : CtlRegs) (w : Workflow) (c : CtlRegs) : Prop where
  quiet : QuietTurn c0.fatalCode c
  phase_ne : c.phase ≠ .next
  wf : c.wf = w
  cur : c.cur = 0
  refValid : c.refValid = false
  refSize : c.refSize = c0.refSize
  reference : statusIs (recordAt c 0) .absent .unknown .none
  targets : TargetsUntouched c0 w c

/-- A WRITE between slot 0's DETECT answer `d` and its READ answer. -/
structure Reading (c0 : CtlRegs) (d : Rsp) (c : CtlRegs) : Prop where
  phase : c.phase = .read
  gerr : c.gerr = false
  on : OnReference c0.fatalCode true d.size c
  reference : statusIs (recordAt c 0) .present .matching .none
  targets : TargetsUntouched c0 .write c

/-- A workflow that slot 0's answers cannot abort any more, or that has ended with no global error. -/
structure PastReference (c : CtlRegs) : Prop where
  gerr : c.gerr = false
  cur_le : c.cur.toNat ≤ 15
  not_opening : c.phase ≠ .start ∧ c.phase ≠ .read
  target : c.phase = .select ∨ c.phase = .settle ∨ c.phase = .detect → 1 ≤ c.cur.toNat

/-- What an aborted workflow `w` ends with, where it has taken the answers `l` (45 R207, 46 R232). -/
structure AbortedEnd (c0 : CtlRegs) (w : Workflow) (l : List Taken) (c : CtlRegs) : Prop where
  lamps : ∀ i : Slot, (recordAt c i).ledMode = .fastBlink
  targets : TargetsUntouched c0 w c
  cause : ∃ (code : ErrCode) (valid : Bool) (size : ChipSize),
    c = { slot := c.slot, phase := .idle, wf := .none, cur := 0, settleCtr := 0, gerr := true, act := false, refValid := valid,
          refSize := size, refImage := none, runErr := code, fatalCode := c0.fatalCode, muxAddr := 0 } ∧
    ((∃ d : Rsp, l = [{ phase := .detect, slot := 0, rsp := d }] ∧ ¬ reportsChip d ∧ code = .noChipDetected ∧
        valid = false ∧ size = c0.refSize ∧ statusIs (recordAt c 0) .absent .unknown .none) ∨
     (w = .write ∧ ∃ d r : Rsp, l = [{ phase := .detect, slot := 0, rsp := d }, { phase := .read, slot := 0, rsp := r }] ∧
        reportsChip d ∧ r.status ≠ .ok ∧ code = .readFailure ∧ valid = true ∧ size = d.size ∧
        statusIs (recordAt c 0) .present .matching .readFailed))

theorem AbortedEnd.idle {c0 c : CtlRegs} {w : Workflow} {l : List Taken} (h : AbortedEnd c0 w l c) :
    c.phase = .idle ∧ c.gerr = true := by
  obtain ⟨code, valid, size, he, -⟩ := h.cause
  rw [he]
  exact ⟨rfl, rfl⟩

/-- What an abort at slot 0 makes of the registers (44 R182). -/
theorem OnReference.abortedWith_eq {f : ErrCode} {valid : Bool} {size : ChipSize} {c : CtlRegs} (h : OnReference f valid size c)
    (r0 : SlotState) (code : ErrCode) :
    abortedWith c r0 code =
      { slot := (abortedWith c r0 code).slot, phase := .idle, wf := .none, cur := 0, settleCtr := 0, gerr := true, act := false,
        refValid := valid, refSize := size, refImage := none, runErr := code, fatalCode := f, muxAddr := 0 } := by
  obtain ⟨hcur, hctr, haddr, hvalid, hsize, hcode⟩ := h
  rw [← hcur, ← hctr, ← haddr, ← hvalid, ← hsize, ← hcode]
  rfl

theorem abortedWith_lamps (c : CtlRegs) (r0 : SlotState) (code : ErrCode) (i : Slot) :
    (recordAt (abortedWith c r0 code) i).ledMode = .fastBlink := by
  rw [abortedWith, abortRegs_at]

/-- The registers once slot 0's good answer in a WRITE is recorded and the READ is issued (46 R222). -/
def readIssued (r : Rsp) (c : CtlRegs) : CtlRegs := { rederive { referenceFound r c with act := true } with phase := .read }

theorem rederive_eq (c : CtlRegs) : rederive c = { c with slot := (rederive c).slot } := rfl

/-- What that writes beside the record array. -/
theorem readIssued_eq (r : Rsp) (c : CtlRegs) :
    readIssued r c =
      { c with slot := (readIssued r c).slot, refSize := r.size, refValid := true, act := true, phase := .read } := by
  rw [readIssued, rederive_eq]
  rfl

theorem OnReference.readIssued {f : ErrCode} {valid : Bool} {size : ChipSize} {c : CtlRegs} (h : OnReference f valid size c) (r : Rsp) :
    OnReference f true r.size (readIssued r c) := by
  rw [readIssued_eq]
  exact ⟨h.cur, h.settleCtr, h.muxAddr, rfl, rfl, h.fatalCode⟩

theorem readIssued_at (r : Rsp) (c : CtlRegs) (i : Slot) :
    recordAt (readIssued r c) i =
      relamp (if 0 = i then { recordAt c 0 with presence := .present, sizeMatch := .matching } else recordAt c i)
        (ctxOf { referenceFound r c with act := true } i) := by
  rw [readIssued, recordAt_mk, rederive_at, recordAt_mk, referenceFound_at]

theorem statusIs_readIssued (r : Rsp) (c : CtlRegs) :
    statusIs (recordAt (readIssued r c) 0) .present .matching (recordAt c 0).lastOpResult := by
  rw [readIssued_at, if_pos rfl]
  exact ⟨rfl, rfl, rfl⟩

theorem otherStatus_readIssued (r : Rsp) (c : CtlRegs) : otherStatus c (readIssued r c) 0 := by
  intro j hj
  rw [readIssued_at, if_neg hj.symm]
  exact sameStatus_relamp _ _

theorem refDetectedInWrite_of_chip {r : Rsp} (h : reportsChip r) (s : State) :
    (refDetectedInWrite r s).ctl = readIssued r s.ctl := by
  obtain ⟨-, e⟩ := (refDetectedInWrite_cases r s).resolve_right fun hno => hno.1 h
  rw [e]
  rfl

namespace Opening

variable {c0 : CtlRegs} {w : Workflow} {s t : State}

theorem start (hp : s.ctl.phase = .start) (h : exec .ctl s = .next t) :
    Opening s.ctl s.ctl.wf t.ctl ∧ t.ctl.phase = .select ∧ t.tSettle = s.tSettle := by
  have hset := (hostFrame_exec rfl h).tSettle
  rw [execCtl_start hp] at h
  obtain rfl := Host.Outcome.next.inj h
  have hregs := startOnCtl_ctl s.quiet
  rw [State.quiet_ctl] at hregs
  have hsel : (startOnCtl s.quiet).ctl.phase = .select := by rw [hregs]
  refine ⟨?_, hsel, hset⟩
  exact
    { quiet := quietTurn_startOnCtl s.quiet
      phase_ne := by simp [hsel]
      wf := by rw [hregs]
      cur := by rw [hregs]
      refValid := by rw [hregs]
      refSize := by rw [hregs]
      reference := by
        rw [startOnCtl_at_cleared (.inr rfl)]
        exact ⟨rfl, rfl, rfl⟩
      targets :=
        { cleared := fun hw i _ => by
            rw [startOnCtl_at_cleared (s := s.quiet) (.inl hw)]
            exact ⟨rfl, rfl, rfl⟩
          kept := fun hw i hi => sameStatus_startOnCtl (s := s.quiet) (by simp [hw]) hi } }

theorem of_sameCourse {c d : CtlRegs} (h : Opening c0 w c) (hsame : SameCourse c d) (hq : QuietTurn c0.fatalCode d)
    (hp : d.phase ≠ .next) : Opening c0 w d where
  quiet := hq
  phase_ne := hp
  wf := hsame.wf.trans h.wf
  cur := hsame.cur.trans h.cur
  refValid := hsame.refValid.trans h.refValid
  refSize := hsame.refSize.trans h.refSize
  reference := hsame.recordAt 0 ▸ h.reference
  targets := h.targets.of_otherStatus (otherStatus_of_slot hsame.slot 0)

theorem onReference {c : CtlRegs} (h : Opening c0 w c) (hp : c.phase = .detect) : OnReference c0.fatalCode false c0.refSize c where
  cur := h.cur
  settleCtr := h.quiet.settled (.inl hp)
  muxAddr := BitVec.eq_of_toNat_eq ((h.quiet.address (by simp [hp])).trans (by simp [h.cur]))
  refValid := h.refValid
  refSize := h.refSize
  fatalCode := h.quiet.fatalCode

/-- A CTL before DETECT leads on in the opening. -/
theorem ctl (h : Opening c0 w s.ctl) (hw : isWait s.ctl.phase = false) (ht : exec .ctl s = .next t) : Opening c0 w t.ctl := by
  have hp : s.ctl.phase = .select ∨ s.ctl.phase = .settle := by
    rcases h.quiet.phase with hp | hp | hp | hp
    · exact .inl hp
    · exact .inr hp
    · exact absurd hw (by simp [hp, isWait])
    · exact absurd hp h.phase_ne
  obtain ⟨u, hu, hq, hsame, hpu, -⟩ := h.quiet.advances hp
  obtain rfl : u = t := Host.Outcome.next.inj (hu.symm.trans ht)
  exact h.of_sameCourse hsame hq hpu

/-- An answer that reports no chip in slot 0 aborts either workflow. -/
theorem no_chip (h : Opening c0 w s.ctl) (hw : w ≠ .none) (hp : s.ctl.phase = .detect) {r : Rsp} (hno : ¬ reportsChip r)
    (ht : exec (.rsp r) s = .next t) : AbortedEnd c0 w [{ phase := .detect, slot := 0, rsp := r }] t.ctl := by
  rw [execRsp_detect r hp, detectOnRsp_of_no_chip (s := s.quiet) h.cur (h.wf.trans_ne hw) hno] at ht
  obtain rfl := Host.Outcome.next.inj ht
  obtain ⟨-, hm, hr⟩ := h.reference
  have hstatus := statusIs_abortedWith s.ctl { recordAt s.ctl 0 with presence := .absent } .noChipDetected
  rw [hm, hr] at hstatus
  rw [State.withCtl_ctl, State.quiet_ctl]
  exact ⟨abortedWith_lamps _ _ _, h.targets.of_otherStatus (otherStatus_abortedWith _ _ _), .noChipDetected, false, c0.refSize,
    (h.onReference hp).abortedWith_eq _ _, .inl ⟨r, rfl, hno, rfl, rfl, rfl, hstatus⟩⟩

/-- A chip in slot 0 brings a CHECK past it (45 R203). -/
theorem chip_in_check (h : Opening c0 .check s.ctl) (hp : s.ctl.phase = .detect) {r : Rsp} (hpres : reportsChip r)
    (ht : exec (.rsp r) s = .next t) : PastReference t.ctl := by
  have hcur := h.cur
  rw [execRsp_detect r hp] at ht
  cases ht
  obtain ⟨hq, hpn, -⟩ := (h.quiet.answered_in_check (s := s.quiet) hp h.wf (by simp [hcur]) r).resolve_right fun hno => hno.1.2 hpres
  exact ⟨hq.gerr, hq.cur_le, by simp [hpn], by simp [hpn]⟩

/-- A chip in slot 0 brings a WRITE to its READ (46 R222). -/
theorem chip_in_write (h : Opening c0 .write s.ctl) (hp : s.ctl.phase = .detect) {r : Rsp} (hpres : reportsChip r)
    (ht : exec (.rsp r) s = .next t) : Reading c0 r t.ctl := by
  rw [execRsp_detect r hp, detectOnRsp_in_write (s := s.quiet) h.cur h.wf] at ht
  obtain rfl := Host.Outcome.next.inj ht
  obtain ⟨-, -, hr⟩ := h.reference
  have hstatus := statusIs_readIssued r s.ctl
  rw [hr] at hstatus
  rw [refDetectedInWrite_of_chip hpres, State.quiet_ctl]
  exact
    { phase := rfl
      gerr := by rw [readIssued_eq]; exact h.quiet.gerr
      on := (h.onReference hp).readIssued r
      reference := hstatus
      targets := h.targets.of_otherStatus (otherStatus_readIssued r s.ctl) }

end Opening

/-- What an OK READ answer writes beside the record array. -/
theorem imageTaken_eq (r : Rsp) (s : State) :
    imageTaken r s =
      { s.ctl with slot := (imageTaken r s).slot, refImage := some (imageOfRsp r s.freeCtr), act := false, phase := .archive } := by
  rw [imageTaken, rederive_eq]
  rfl

/-- The READ answer takes the image, past which nothing aborts, or aborts the WRITE (46 R224). -/
theorem Reading.answered {c0 : CtlRegs} {d r : Rsp} {s t : State} (h : Reading c0 d s.ctl) (hpres : reportsChip d)
    (ht : exec (.rsp r) s = .next t) :
    (r.status = .ok ∧ PastReference t.ctl) ∨
    (r.status ≠ .ok ∧
      AbortedEnd c0 .write [{ phase := .detect, slot := 0, rsp := d }, { phase := .read, slot := 0, rsp := r }] t.ctl) := by
  rw [execRsp_read r h.phase] at ht
  obtain rfl := Host.Outcome.next.inj ht
  rcases readOnRsp_cases r s.quiet with ⟨hok, e⟩ | ⟨hfail, e⟩ <;> rw [e]
  · have hcur : s.ctl.cur.toNat ≤ 15 := by simp [h.on.cur]
    rw [imageTaken_eq, State.quiet_ctl]
    exact .inl ⟨hok, h.gerr, hcur, by simp, by simp⟩
  · obtain ⟨hp, hm, -⟩ := h.reference
    have hstatus := statusIs_abortedWith s.ctl { recordAt s.ctl 0 with lastOpResult := .readFailed } .readFailure
    rw [hp, hm] at hstatus
    rw [State.withCtl_ctl, State.quiet_ctl]
    exact .inr ⟨hfail, abortedWith_lamps _ _ _, h.targets.of_otherStatus (otherStatus_abortedWith s.ctl _ _), .readFailure, true, d.size,
      h.on.abortedWith_eq _ _, .inr ⟨rfl, d, r, rfl, hpres, hfail, rfl, rfl, rfl, hstatus⟩⟩

/-! ### Past slot 0 -/

/-- The end of a slot's turn is past slot 0 where the turn was. -/
theorem pastReference_slotDone {c d : CtlRegs} (h : PastReference c) (hg : d.gerr = c.gerr) (hc : d.cur = c.cur) :
    PastReference (slotDone d) where
  gerr := by rw [slotDone_gerr, hg, h.gerr]
  cur_le := by rw [slotDone_cur, hc]; exact h.cur_le
  not_opening := by simp
  target := by simp

theorem pastReference_attemptDone {s : State} (h : PastReference s.ctl) (k : OpResult) : PastReference (attemptDone k s).ctl := by
  rw [attemptDone_eq]
  exact pastReference_slotDone h (setCurRecord_gerr _ _) (setCurRecord_cur _ _)

namespace PastReference

variable {s t : State}

theorem ctl (h : PastReference s.ctl) (ht : exec .ctl s = .next t) : PastReference t.ctl := by
  rcases execCtl_next_cases ht with ⟨hp, rfl⟩ | ⟨hp, -⟩ | ⟨hp, hk⟩ | ⟨hp, rfl⟩ | ⟨-, rfl⟩ | ⟨-, rfl⟩ | ⟨-, rfl⟩
  · rw [bootOnCtl_eq (s := s.quiet) hp]
    refine ⟨h.gerr, h.cur_le, ?_, ?_⟩ <;> rw [State.withCtl_ctl] <;> split <;> simp
  · exact absurd hp h.not_opening.1
  · rcases selectOnCtl_next hk with ⟨-, rfl⟩ | ⟨-, rfl⟩
    · exact ⟨h.gerr, h.cur_le, by simp, by simp⟩
    · rw [State.withCtl_ctl, selectedRegs_eq]
      exact ⟨h.gerr, h.cur_le, by simp, fun _ => h.target (.inl hp)⟩
  · have hcur := h.target (.inr (.inl hp))
    rcases settleOnCtl_cases s.quiet with ⟨-, e⟩ | ⟨cmd, rfl | rfl, e⟩ <;> rw [e]
    · exact ⟨h.gerr, h.cur_le, h.not_opening, h.target⟩
    · exact ⟨h.gerr, h.cur_le, by simp [issueCommand_eq, commandPhase], fun _ => hcur⟩
    · exact ⟨h.gerr, h.cur_le, by simp [issueCommand_eq, commandPhase], fun _ => hcur⟩
  · exact ⟨h.gerr, h.cur_le, by simp [archiveOnCtl], by simp [archiveOnCtl]⟩
  · rcases nextOnCtl_cases s.quiet with ⟨-, e⟩ | ⟨hne, p, hp, e⟩ <;> rw [e]
    · exact ⟨h.gerr, h.cur_le, by simp, by simp⟩
    · have hlt : s.ctl.cur.toNat < 15 := Nat.lt_of_le_of_ne h.cur_le hne
      have hcur : (curOfNat (s.ctl.cur.toNat + 1)).toNat = s.ctl.cur.toNat + 1 := curOfNat_toNat (by omega)
      refine ⟨h.gerr, hcur.trans_le hlt, ?_, fun _ => (Nat.succ_pos _).trans_eq hcur.symm⟩
      rcases hp with rfl | rfl <;> simp
  · exact h

theorem rsp (h : PastReference s.ctl) {r : Rsp} (ht : exec (.rsp r) s = .next t) : PastReference t.ctl := by
  rcases execRsp_next_cases ht with ⟨hp, rfl⟩ | ⟨hp, -⟩ | ⟨-, rfl⟩ | ⟨-, rfl⟩ | ⟨-, rfl⟩
  · rw [detectOnRsp_of_target (s := s.quiet) (h.target (.inr (.inr hp))), targetDetected_eq]
    exact pastReference_slotDone h (setCurRecord_gerr _ _) (setCurRecord_cur _ _)
  · exact absurd hp h.not_opening.2
  · rcases writeOnRsp_cases r s.quiet with ⟨-, e⟩ | ⟨-, e⟩ <;> rw [e]
    · exact ⟨h.gerr, h.cur_le, by simp [issueCommand_eq, commandPhase], by simp [issueCommand_eq, commandPhase]⟩
    · exact pastReference_attemptDone (s := s.quiet) h _
  · exact pastReference_attemptDone (s := s.quiet) h _
  · exact h

theorem event (h : PastReference s.ctl) {i : Instr} (hi : i.isEvent = true) (hr : notReset i = true) (hp : s.ctl.phase ≠ .idle)
    (ht : exec i s = .next t) : PastReference t.ctl := by
  rcases event_cases hi hr hp ht with ⟨-, hctl⟩ | ⟨-, rfl, -⟩ | ⟨r, rfl, -, -⟩
  · exact hctl ▸ h
  · exact h.ctl ht
  · exact h.rsp ht

end PastReference

/-! ### The whole workflow -/

/-- A workflow from START on, as far as it can be aborted. -/
inductive WorkflowCourse (c0 : CtlRegs) (w : Workflow) : List Taken → Nat → State → Prop where
  | start {s : State} (h : s.ctl = c0) : WorkflowCourse c0 w [] 0 s
  | opening {s : State} (h : Opening c0 w s.ctl) : WorkflowCourse c0 w [] 0 s
  | reading {s : State} {d : Rsp} (hw : w = .write) (hd : reportsChip d) (h : Reading c0 d s.ctl) :
      WorkflowCourse c0 w [{ phase := .detect, slot := 0, rsp := d }] 0 s
  | past {l : List Taken} {n : Nat} {s : State} (h : PastReference s.ctl) : WorkflowCourse c0 w l n s
  | aborted {l : List Taken} {s : State} (h : AbortedEnd c0 w l s.ctl) : WorkflowCourse c0 w l 0 s

/-- Slot 0's DETECT answer in either workflow. -/
theorem Opening.answered {c0 : CtlRegs} {w : Workflow} {s t : State} {r : Rsp} (h : Opening c0 w s.ctl) (hw : w ≠ .none)
    (hp : s.ctl.phase = .detect) (ht : exec (.rsp r) s = .next t) :
    WorkflowCourse c0 w [{ phase := .detect, slot := 0, rsp := r }] 0 t := by
  by_cases hpres : reportsChip r
  · cases w with
    | none => exact absurd rfl hw
    | check => exact .past (h.chip_in_check hp hpres ht)
    | write => exact .reading rfl hpres (h.chip_in_write hp hpres ht)
  · exact .aborted (h.no_chip hw hp hpres ht)

theorem WorkflowCourse.event {c0 : CtlRegs} {w : Workflow} {l : List Taken} {n : Nat} {s t : State} {i : Instr}
    (hstart : c0.phase = .start ∧ c0.wf = w ∧ w ≠ .none) (h : WorkflowCourse c0 w l n s) (hi : i.isEvent = true) (hr : notReset i = true)
    (hp : s.ctl.phase ≠ .idle) (ht : exec i s = .next t) : WorkflowCourse c0 w (l ++ takenBy i s) (n + storesOf t) t := by
  obtain ⟨hp0, hw0, hw⟩ := hstart
  cases h with
  | start h =>
    subst h
    rw [storesOf_exec hi (by simp [hp0]) ht]
    rcases event_cases hi hr hp ht with ⟨hnone, hctl⟩ | ⟨hnone, rfl, -⟩ | ⟨r, -, hwait, -⟩
    · rw [hnone]
      exact .start hctl
    · rw [hnone]
      exact .opening (hw0 ▸ (Opening.start hp0 ht).1)
    · exact absurd hwait (by simp [hp0, isWait])
  | opening h =>
    rw [storesOf_exec hi h.quiet.phase_ne_archive ht]
    rcases event_cases hi hr hp ht with ⟨hnone, hctl⟩ | ⟨hnone, rfl, hwait⟩ | ⟨r, rfl, hwait, htaken⟩
    · rw [hnone]
      exact .opening (hctl ▸ h)
    · rw [hnone]
      exact .opening (h.ctl hwait ht)
    · have hpd := h.quiet.phase_of_wait hwait
      rw [htaken, hpd, h.cur]
      exact h.answered hw hpd ht
  | reading hwrite hd h =>
    subst hwrite
    rw [storesOf_exec hi (by simp [h.phase]) ht]
    rcases event_cases hi hr hp ht with ⟨hnone, hctl⟩ | ⟨-, -, hwait⟩ | ⟨r, rfl, -, htaken⟩
    · rw [hnone]
      exact .reading rfl hd (hctl ▸ h)
    · exact absurd hwait (by simp [h.phase, isWait])
    · rw [htaken, h.phase, h.on.cur]
      rcases h.answered hd ht with ⟨-, hpast⟩ | ⟨-, hend⟩
      · exact .past hpast
      · exact .aborted hend
  | past h => exact .past (h.event hi hr hp ht)
  | aborted h => exact absurd h.idle.1 hp

/-- In IDLE with the global error shown the workflow was aborted at slot 0. -/
theorem WorkflowCourse.aborted_of_gerr {c0 : CtlRegs} {w : Workflow} {l : List Taken} {n : Nat} {s : State} (hp0 : c0.phase = .start)
    (h : WorkflowCourse c0 w l n s) (hidle : s.ctl.phase = .idle) (hg : s.ctl.gerr = true) : n = 0 ∧ AbortedEnd c0 w l s.ctl := by
  cases h with
  | start h => exact absurd (hp0.symm.trans (h ▸ hidle)) (by decide)
  | opening h => exact absurd hidle h.quiet.phase_ne_idle
  | reading _ _ h => exact absurd (h.phase.symm.trans hidle) (by decide)
  | past h => exact absurd (h.gerr.symm.trans hg) (by decide)
  | aborted h => exact ⟨rfl, h⟩

/-! ### The bare sequences -/

/-- T_SETTLE + 3 CTL events lead from START to slot 0's DETECT (44 R185). -/
theorem leads_to_reference {s : State} (hp : s.ctl.phase = .start) :
    ∃ u, Leads (List.replicate (s.tSettle.toNat + 3) .ctl) s u ∧ Opening s.ctl s.ctl.wf u.ctl ∧ u.ctl.phase = .detect := by
  have hstart := execCtl_start hp
  obtain ⟨hopen, hsel, hset⟩ := Opening.start hp hstart
  obtain ⟨u, hu, hq, hsame, hpu⟩ := hopen.quiet.leads_to_detect hopen.phase_ne (n := s.tSettle.toNat + 2) (by simp [runMeasure, hsel, hset])
  exact ⟨u, .cons (by simp [hp]) hstart hu, hopen.of_sameCourse hsame hq (by simp [hpu]), hpu⟩

/-- A sequence that ends in an aborted workflow is a run to IDLE. -/
theorem Leads.runWorkflow_aborted {es : List Instr} {s t : State} {c0 : CtlRegs} {w : Workflow} {l : List Taken} (h : Leads es s t)
    (hend : AbortedEnd c0 w l t.ctl) : ∃ e, Sys2Proof.runWorkflow es s = some e ∧ e.last.ctl.gerr = true := by
  obtain ⟨e, he, rfl⟩ := h.runWorkflow hend.idle.1
  exact ⟨e, he, hend.idle.2⟩

/-- Settles O57: the bare sequences reach slot 0's DETECT answer and, with a chip there, the READ answer; and a run in which neither of
them aborts ends with no global error. -/
theorem workflowAborted : Obligations.WorkflowAborted := by
  refine ⟨fun s d hp hw hno => ?noChip, fun s d r hp hw hpres hfail => ?readFails, fun s e w hw hend hg => ?mixed⟩
  case noChip =>
    obtain ⟨u, hu, hopen, hpu⟩ := leads_to_reference hp
    obtain ⟨v, hv⟩ := execRsp_completes d u
    exact (hu.append (.single hopen.quiet.phase_ne_idle hv)).runWorkflow_aborted (hopen.no_chip hw hpu hno hv)
  case readFails =>
    obtain ⟨u, hu, hopen, hpu⟩ := leads_to_reference hp
    rw [hw] at hopen
    obtain ⟨v, hv⟩ := execRsp_completes d u
    have hreading := hopen.chip_in_write hpu hpres hv
    obtain ⟨x, hx⟩ := execRsp_completes r v
    obtain ⟨-, hab⟩ := (hreading.answered hpres hx).resolve_left fun hok => hfail hok.1
    exact (hu.append (.cons hopen.quiet.phase_ne_idle hv (.single (by simp [hreading.phase]) hx))).runWorkflow_aborted hab
  case mixed =>
    obtain ⟨hp, hwf, es, hes, hrun⟩ := hend
    obtain ⟨hcourse, hidle⟩ := runWorkflow_induction (P := WorkflowCourse s.ctl w)
      (fun _ _ _ _ _ h hi hr hp' ht => h.event ⟨hp, hwf, hw⟩ hi hr hp' ht) (.start rfl) hes hrun
    obtain ⟨hstores, hab⟩ := hcourse.aborted_of_gerr hp hidle hg
    exact ⟨(Nat.zero_add _).symm.trans hstores, hab.lamps, hab.targets.cleared, hab.targets.kept, hab.cause⟩

end Sys2Proof
end

section
/-! Which lamp shows `dataActivity` (44 R173, R174, 46 R234). -/

namespace Sys2Proof

open Machine

/-- Only the context `act` makes a lamp `dataActivity` (44 R170). -/
theorem ledModeOf_eq_dataActivity_iff (p : Presence) (m : SizeMatch) (k : OpResult) (x : LedCtx) :
    ledModeOf p m k x = .dataActivity ↔ x = .act := by
  cases x with
  | gerr => simp [ledModeOf]
  | act => simp [ledModeOf]
  | norm => cases p <;> cases m <;> cases k <;> simp [ledModeOf]

theorem ctxOf_eq_act_iff (c : CtlRegs) (i : Slot) :
    ctxOf c i = .act ↔ c.gerr = false ∧ c.act = true ∧ i.val = c.cur.toNat := by
  rcases ctxOf_cases c i with ⟨hg, e⟩ | ⟨hg, ha, hi, e⟩ | ⟨hg, hn, e⟩
  · simp [e, hg]
  · simp [e, hg, ha, hi]
  · simp only [e, hg, true_and, reduceCtorEq, false_iff]
    exact hn

/-- The two ways an operation can be in flight (10_state R32). -/
theorem operationInFlight_iff (c : CtlRegs) :
    operationInFlight c = true ↔
      (c.wf = .write ∧ 1 ≤ c.cur.toNat ∧ (c.phase = .settle ∨ c.phase = .write ∨ c.phase = .verify)) ∨ c.phase = .read := by
  simp only [operationInFlight, onWriteTarget, Bool.or_eq_true, Bool.and_eq_true, Bool.not_eq_true', decide_eq_true_eq,
    decide_eq_false_iff_not, isTarget_iff]
  cases c.phase <;> simp

/-- A lamp shows `dataActivity` exactly on the slot of the operation in flight. -/
theorem CtlInv.dataActivity_iff {c : CtlRegs} (h : CtlInv c) (i : Slot) :
    (recordAt c i).ledMode = .dataActivity ↔ i.val = c.cur.toNat ∧ operationInFlight c = true := by
  rw [h.led i, ledModeOf_eq_dataActivity_iff, ctxOf_eq_act_iff, h.act]
  constructor
  · rintro ⟨-, hflight, hi⟩
    exact ⟨hi, hflight⟩
  · rintro ⟨hi, hflight⟩
    refine ⟨Bool.eq_false_iff.mpr fun hg => ?_, hflight, hi⟩
    -- The global error is shown in IDLE and START only, where nothing is in flight.
    rw [operationInFlight_iff] at hflight
    rcases h.gerr hg with hp | hp <;> simp [hp] at hflight

/-- Settles O16: by the invariant the lamps are derived, and `act` says when an operation is in flight; a READ is slot 0's. -/
theorem dataActivityIsSlotInFlight : Obligations.DataActivityIsSlotInFlight := by
  intro t i ht
  have hinv := (engineInv_of_reachable ht).ctl
  rw [hinv.dataActivity_iff i, operationInFlight_iff]
  refine and_congr_right fun hi => or_congr (by rw [hi]) ⟨fun hp => ⟨?_, hp⟩, And.right⟩
  obtain ⟨-, hcur⟩ := hinv.readSlot (.inl hp)
  simp [hi, hcur]

end Sys2Proof
end

section
/-! The phases of a WRITE, one event each: slot 0's DETECT and READ answers, ARCHIVE, and a target's WRITE and VERIFY answers (46 R222 to
R230). -/

namespace Sys2Proof

open Machine

/-! ### Slot 0 -/

theorem lampsDerived_readIssued (r : Rsp) (c : CtlRegs) : lampsDerived (readIssued r c) :=
  lampsDerived_phase _ _ (lampsDerived_rederive _)

/-- While slot 0 is read its lamp shows the operation, unless the global error is shown (44 R170, R173). -/
theorem ledMode_readIssued {c : CtlRegs} (hcur : c.cur = 0) (hg : c.gerr = false) (r : Rsp) :
    (recordAt (readIssued r c) 0).ledMode = .dataActivity := by
  rw [readIssued_at, relamp_ledMode, ledModeOf_eq_dataActivity_iff, ctxOf_eq_act_iff]
  exact ⟨hg, rfl, (congrArg BitVec.toNat hcur).symm⟩

/-- The good DETECT answer in a WRITE changes the Controller's registers and issues the READ (46 R222). -/
theorem refDetectedInWrite_eq_of_chip {r : Rsp} (h : reportsChip r) (s : State) :
    refDetectedInWrite r s.quiet = { s with ctl := readIssued r s.ctl, out := requestPins .read none } := by
  obtain ⟨-, e⟩ := (refDetectedInWrite_cases r s.quiet).resolve_right fun hno => hno.1 h
  rw [e]
  rfl

/-- Settles O41: the answer reports a chip and the READ is issued, or it does not and the WRITE is aborted. -/
theorem referenceDetectedInWrite : Obligations.ReferenceDetectedInWrite := by
  refine ⟨phaseCode_phaseInstr .detect, fun s r hp hcur hw => ?_⟩
  have hexec : exec (.rsp r) s = .next (refDetectedInWrite r s.quiet) := by
    rw [execRsp_detect r hp, detectOnRsp_in_write (s := s.quiet) hcur hw]
  refine ⟨_, hexec, (exec_phaseInstr_rsp hp r).trans hexec, ?_⟩
  by_cases hpres : reportsChip r
  · rw [refDetectedInWrite_eq_of_chip hpres]
    exact ⟨otherStatus_readIssued r s.ctl, lampsDerived_readIssued r s.ctl,
      fun _ => ⟨rfl, readIssued_eq r s.ctl, statusIs_readIssued r s.ctl, fun hg => ledMode_readIssued hcur hg r⟩,
      fun hno => absurd hpres hno⟩
  · obtain ⟨-, e⟩ := (refDetectedInWrite_cases r s.quiet).resolve_left fun hpres' => hpres hpres'.1
    rw [e]
    exact ⟨otherStatus_abortedWith s.ctl _ _, lampsDerived_abortRegs _ _, fun hpres' => absurd hpres' hpres,
      fun _ => ⟨onlyCtl_withCtl s _, aborted_abortedWith s.ctl _ _, statusIs_abortedWith s.ctl _ _⟩⟩

/-- The OK READ answer, record by record. -/
theorem imageTaken_at (r : Rsp) (s : State) (i : Slot) :
    recordAt (imageTaken r s) i =
      relamp (if 0 = i then { recordAt s.ctl 0 with lastOpResult := .success } else recordAt s.ctl i)
        (if s.ctl.gerr then .gerr else .norm) := by
  rw [imageTaken, recordAt_mk, rederive_at, recordAt_mk, setRecord_at]
  simp [ctxOf]

theorem otherStatus_imageTaken (r : Rsp) (s : State) : otherStatus s.ctl (imageTaken r s) 0 := by
  intro j hj
  rw [imageTaken_at, if_neg hj.symm]
  exact sameStatus_relamp _ _

theorem statusIs_imageTaken (r : Rsp) (s : State) :
    statusIs (recordAt (imageTaken r s) 0) (recordAt s.ctl 0).presence (recordAt s.ctl 0).sizeMatch .success := by
  rw [imageTaken_at, if_pos rfl]
  exact ⟨rfl, rfl, rfl⟩

theorem lampsDerived_imageTaken (r : Rsp) (s : State) : lampsDerived (imageTaken r s) :=
  lampsDerived_phase _ _ (lampsDerived_rederive _)

/-- Settles O43: the status is OK and the image is taken, or it is not and the WRITE is aborted. -/
theorem readAnswer : Obligations.ReadAnswer := by
  refine ⟨phaseCode_phaseInstr .read, fun s r hp => ?_⟩
  have hexec := execRsp_read r hp
  refine ⟨_, hexec, (exec_phaseInstr_rsp hp r).trans hexec, ?_⟩
  rcases readOnRsp_cases r s.quiet with ⟨hok, e⟩ | ⟨hfail, e⟩ <;> rw [e]
  · obtain ⟨hlen, hhash⟩ := imageOfRsp_whole r s.freeCtr
    refine ⟨otherStatus_imageTaken r s, lampsDerived_imageTaken r s, rfl, fun _ => ⟨imageTaken_eq r s, ?image,
      statusIs_imageTaken r s, fun hg => ?lamp⟩, fun hfail => absurd hok hfail⟩
    case image => exact ⟨imageOfRsp r s.freeCtr, rfl, hlen, hhash, fun bytes hb => imageOfRsp_bytes hb _⟩
    case lamp =>
      change (recordAt (imageTaken r s) 0).ledMode = _
      rw [imageTaken_at, hg]
      rfl
  · exact ⟨otherStatus_abortedWith s.ctl _ _, lampsDerived_abortRegs _ _, rfl, fun hok => absurd hok hfail,
      fun _ => ⟨aborted_abortedWith s.ctl _ _, statusIs_abortedWith s.ctl _ _⟩⟩

/-- Settles O44: ARCHIVE emits the store request with the image held and moves on. -/
theorem archivePhase : Obligations.ArchivePhase :=
  ⟨phaseCode_phaseInstr .archive, fun _ hp => ⟨execCtl_archive hp, exec_phaseInstr_ctl hp⟩⟩

/-! ### A target's attempt -/

/-- The end of a slot's turn, record by record: nothing is in flight any more. -/
theorem turnEnded_at_relamp (c : CtlRegs) (f : SlotState → SlotState) (i : Slot) :
    recordAt (turnEnded c f) i = relamp (recordAt (setCurRecord c f) i) (if c.gerr then .gerr else .norm) := by
  have hctx : ctxOf { setCurRecord c f with act := false } i = if c.gerr then .gerr else .norm := by
    simp [ctxOf, setCurRecord_gerr]
  rw [turnEnded, slotDone_at, recordAt_mk, hctx]

/-- The end of a turn writes no status but that of slot `cur`. -/
theorem otherStatus_turnEnded {c : CtlRegs} {i : Slot} (hi : i.val = c.cur.toNat) (f : SlotState → SlotState) :
    otherStatus c (turnEnded c f) i := by
  intro j hj
  rw [turnEnded_at_relamp, setCurRecord_at_other c f fun h => hj (Fin.ext (h.trans hi.symm))]
  exact sameStatus_relamp _ _

theorem lampsDerived_turnEnded (c : CtlRegs) (f : SlotState → SlotState) : lampsDerived (turnEnded c f) :=
  lampsDerived_slotDone _

/-- The record of slot `cur` once its attempt has ended with the result `k`. -/
theorem turnEnded_at_cur {c : CtlRegs} {i : Slot} (hi : i.val = c.cur.toNat) (k : OpResult) :
    recordAt (turnEnded c fun ri => { ri with lastOpResult := k }) i =
      relamp { recordAt c i with lastOpResult := k } (if c.gerr then .gerr else .norm) := by
  rw [turnEnded_at_relamp, setCurRecord_of_slot hi, setRecord_at_self]

theorem statusIs_turnEnded {c : CtlRegs} {i : Slot} (hi : i.val = c.cur.toNat) (k : OpResult) :
    statusIs (recordAt (turnEnded c fun ri => { ri with lastOpResult := k }) i) (recordAt c i).presence (recordAt c i).sizeMatch k := by
  rw [turnEnded_at_cur hi]
  exact ⟨rfl, rfl, rfl⟩

/-- With a result recorded and nothing in flight, the lamp tells success from failure (44 R170). -/
theorem ledModeOf_norm_of_result {k : OpResult} (hk : k ≠ .none) (p : Presence) (m : SizeMatch) :
    ledModeOf p m k .norm = if k = .success then .on else .fastBlink := by
  cases k with
  | none => exact absurd rfl hk
  | _ => rfl

theorem kindOfWrite_eq (e : ErrCode) :
    kindOfWrite e = if e = .readFailure then .readFailed else if e = .verifyFailure then .verifyFailed else .writeFailed := by
  cases e <;> rfl

/-- A failure kind is neither success nor nothing (46 R227). -/
theorem kindOfWrite_ne (e : ErrCode) : kindOfWrite e ≠ .none ∧ kindOfWrite e ≠ .success := by
  cases e <;> decide

theorem verifyResult_eq (e : ErrCode) (flag : Bool) :
    verifyResult e flag =
      if e = .ok ∧ flag = true then .success
      else if e = .readFailure then .readFailed
      else if e = .writeFailure then .writeFailed
      else .verifyFailed := by
  cases e <;> cases flag <;> rfl

theorem verifyResult_ne_none (e : ErrCode) (flag : Bool) : verifyResult e flag ≠ .none := by
  rw [verifyResult_eq]
  split_ifs <;> decide

/-- Success needs `OK` and `flag == 1` (46 R230). -/
theorem verifyResult_eq_success_iff (e : ErrCode) (flag : Bool) : verifyResult e flag = .success ↔ e = .ok ∧ flag = true := by
  rw [verifyResult_eq]
  split_ifs <;> simp_all

/-- Settles O45: the status is OK and the VERIFY is issued, or it is not and the turn of slot `cur` ends with its kind. -/
theorem writeAnswer : Obligations.WriteAnswer := by
  refine ⟨phaseCode_phaseInstr .write, fun s r i hp hi => ?_⟩
  have hexec := execRsp_write r hp
  refine ⟨_, hexec, (exec_phaseInstr_rsp hp r).trans hexec, ?_⟩
  rcases writeOnRsp_cases r s.quiet with ⟨hok, e⟩ | ⟨hfail, e⟩ <;> rw [e]
  · exact ⟨fun _ => issueCommand_quiet s .verify, fun hfail => absurd hok hfail⟩
  · rw [attemptDone_eq_turnEnded, State.quiet_ctl, ← kindOfWrite_eq]
    refine ⟨fun hok => absurd hok hfail, fun _ => ⟨onlyCtl_withCtl s _, turnEnded_eq s.ctl _, otherStatus_turnEnded hi _,
      lampsDerived_turnEnded s.ctl _, statusIs_turnEnded hi _, ?lamp⟩⟩
    case lamp =>
      rw [State.withCtl_ctl, turnEnded_at_cur hi, relamp_ledMode]
      cases s.ctl.gerr with
      | true => rfl
      | false =>
        obtain ⟨hnone, hsuccess⟩ := kindOfWrite_ne r.status
        exact (ledModeOf_norm_of_result hnone _ _).trans (if_neg hsuccess)

/-- Settles O46: the turn of slot `cur` ends with success or with the kind of the status. -/
theorem verifyAnswer : Obligations.VerifyAnswer := by
  refine ⟨phaseCode_phaseInstr .verify, fun s r i hp hi => ?_⟩
  have hexec := execRsp_verify r hp
  refine ⟨_, hexec, (exec_phaseInstr_rsp hp r).trans hexec, ?_⟩
  rw [verifyOnRsp, attemptDone_eq_turnEnded, State.quiet_ctl, ← verifyResult_eq]
  refine ⟨onlyCtl_withCtl s _, turnEnded_eq s.ctl _, otherStatus_turnEnded hi _, lampsDerived_turnEnded s.ctl _,
    statusIs_turnEnded hi _, fun hg => ?lamp⟩
  case lamp =>
    rw [State.withCtl_ctl, turnEnded_at_cur hi, relamp_ledMode, hg]
    refine (ledModeOf_norm_of_result (verifyResult_ne_none _ _) _ _).trans ?_
    simp only [verifyResult_eq_success_iff]

end Sys2Proof
end

section
/-! The course of a WRITE, whatever is mixed in: the answers it takes for each slot, what they record, and the registers on the way (46 R222
to R231, 44 R185). -/

namespace Sys2Proof

open Machine

/-! ### The answers taken for a slot -/

/-- The answers among `l` that were taken for slot `i`. -/
def takenFor (l : List Taken) (i : Slot) : List Taken := l.filter fun a => a.slot = i.val

theorem WorkflowEnd.takenAt_eq (e : WorkflowEnd) (i : Slot) : e.takenAt i = takenFor e.taken i := rfl

theorem takenFor_append (l m : List Taken) (i : Slot) : takenFor (l ++ m) i = takenFor l i ++ takenFor m i := List.filter_append ..

theorem takenFor_of_slot {l : List Taken} {i : Slot} (h : ∀ a ∈ l, a.slot = i.val) : takenFor l i = l :=
  List.filter_eq_self.mpr (by simpa using h)

theorem takenFor_of_other {l : List Taken} {i j : Slot} (h : ∀ a ∈ l, a.slot = i.val) (hj : j ≠ i) : takenFor l j = [] :=
  List.filter_eq_nil_iff.mpr fun a ha => by simpa [h a ha, Fin.ext_iff] using hj.symm

/-- Slot 0's two answers in a WRITE. -/
def referenceAnswers (d r : Rsp) : List Taken := [{ phase := .detect, slot := 0, rsp := d }, { phase := .read, slot := 0, rsp := r }]

theorem slot_of_mem_referenceAnswers {d r : Rsp} : ∀ a ∈ referenceAnswers d r, a.slot = (0 : Slot).val := by
  simp [referenceAnswers]

/-- The answers `as` end target `i`'s attempt with the result `k`: a failed WRITE, or the VERIFY after a successful one (46 R228, R230). -/
def AttemptAnswers (i : Slot) (as : List Taken) (k : OpResult) : Prop :=
  (∃ w : Rsp, as = [{ phase := .write, slot := i.val, rsp := w }] ∧ w.status ≠ .ok ∧ k = kindOfWrite w.status) ∨
  (∃ w x : Rsp, as = [{ phase := .write, slot := i.val, rsp := w }, { phase := .verify, slot := i.val, rsp := x }] ∧
    w.status = .ok ∧ k = verifyResult x.status x.flag)

theorem AttemptAnswers.ne_none {i : Slot} {as : List Taken} {k : OpResult} (h : AttemptAnswers i as k) : k ≠ .none := by
  rcases h with ⟨w, -, -, rfl⟩ | ⟨w, x, -, -, rfl⟩
  · exact (kindOfWrite_ne w.status).1
  · exact verifyResult_ne_none x.status x.flag

theorem AttemptAnswers.slot {i : Slot} {as : List Taken} {k : OpResult} (h : AttemptAnswers i as k) : ∀ a ∈ as, a.slot = i.val := by
  rcases h with ⟨w, rfl, -, -⟩ | ⟨w, x, rfl, -, -⟩ <;> simp

theorem eligibleSlot_iff {c : CtlRegs} {i : Slot} :
    eligibleSlot c i = true ↔ 1 ≤ i.val ∧ (recordAt c i).sizeMatch = .matching := by
  simp [eligibleSlot]

/-! ### What a WRITE has done of each target -/

/-- The answers for slot `i` and the status of its record did not change. -/
structure SameSlot (l : List Taken) (c : CtlRegs) (l' : List Taken) (c' : CtlRegs) (i : Slot) : Prop where
  taken : takenFor l' i = takenFor l i
  status : sameStatus (recordAt c i) (recordAt c' i)

theorem sameStatus_trans {a b c : SlotState} (h : sameStatus a b) (k : sameStatus b c) : sameStatus a c := by
  obtain ⟨hp, hm, hr⟩ := h
  obtain ⟨hp', hm', hr'⟩ := k
  exact ⟨hp'.trans hp, hm'.trans hm, hr'.trans hr⟩

theorem statusIs_of_sameStatus {a b : SlotState} {p : Presence} {m : SizeMatch} {k : OpResult} (h : statusIs a p m k)
    (hs : sameStatus a b) : statusIs b p m k := by
  obtain ⟨hp, hm, hr⟩ := h
  obtain ⟨hp', hm', hr'⟩ := hs
  exact ⟨hp'.trans hp, hm'.trans hm, hr'.trans hr⟩

/-- Nothing was asked of slot `i` since START, which found the registers `c0`. -/
structure Untouched (c0 : CtlRegs) (l : List Taken) (c : CtlRegs) (i : Slot) : Prop where
  taken : takenFor l i = []
  status : sameStatus (recordAt c0 i) (recordAt c i)

/-- Slot `i` was attempted, with the result `k`. -/
structure Attempted (c0 : CtlRegs) (l : List Taken) (c : CtlRegs) (i : Slot) (k : OpResult) : Prop where
  answers : AttemptAnswers i (takenFor l i) k
  status : statusIs (recordAt c i) (recordAt c0 i).presence (recordAt c0 i).sizeMatch k

/-- Target `i`'s turn is over: it was attempted where it is eligible, and left alone where it is not (46 R226). -/
structure TurnOver (c0 : CtlRegs) (l : List Taken) (c : CtlRegs) (i : Slot) : Prop where
  attempted : eligibleSlot c0 i = true → ∃ k, Attempted c0 l c i k
  skipped : eligibleSlot c0 i = false → Untouched c0 l c i

section
variable {c0 c c' : CtlRegs} {l l' : List Taken} {i : Slot}

theorem Untouched.congr (h : Untouched c0 l c i) (hs : SameSlot l c l' c' i) : Untouched c0 l' c' i :=
  ⟨hs.taken.trans h.taken, sameStatus_trans h.status hs.status⟩

theorem Attempted.congr {k : OpResult} (h : Attempted c0 l c i k) (hs : SameSlot l c l' c' i) : Attempted c0 l' c' i k :=
  ⟨hs.taken ▸ h.answers, statusIs_of_sameStatus h.status hs.status⟩

theorem TurnOver.congr (h : TurnOver c0 l c i) (hs : SameSlot l c l' c' i) : TurnOver c0 l' c' i :=
  ⟨fun he => (h.attempted he).imp fun _ hk => hk.congr hs, fun he => (h.skipped he).congr hs⟩

end

/-- A WRITE whose slot 0 gave the good answers `d` and `r` and which is done with the targets below `n`. -/
structure CloneLog (c0 : CtlRegs) (d r : Rsp) (n : Nat) (l : List Taken) (c : CtlRegs) : Prop where
  chip : reportsChip d
  read : r.status = .ok
  answers : takenFor l 0 = referenceAnswers d r
  reference : statusIs (recordAt c 0) .present .matching .success
  behind : ∀ i : Slot, 1 ≤ i.val → i.val < n → TurnOver c0 l c i
  ahead : ∀ i : Slot, 1 ≤ i.val → n ≤ i.val → Untouched c0 l c i

section
variable {c0 c c' : CtlRegs} {d r : Rsp} {n : Nat} {l l' : List Taken}

theorem CloneLog.congr (h : CloneLog c0 d r n l c) (hs : ∀ i, SameSlot l c l' c' i) : CloneLog c0 d r n l' c' :=
  { h with
    answers := (hs 0).taken.trans h.answers
    reference := statusIs_of_sameStatus h.reference (hs 0).status
    behind := fun i hi hn => (h.behind i hi hn).congr (hs i)
    ahead := fun i hi hn => (h.ahead i hi hn).congr (hs i) }

/-- Registers beside the record array, and lamps, do not matter. -/
theorem CloneLog.of_sameStatus (h : CloneLog c0 d r n l c) (hs : ∀ i, sameStatus (recordAt c i) (recordAt c' i)) :
    CloneLog c0 d r n l c' :=
  h.congr fun i => ⟨rfl, hs i⟩

theorem CloneLog.of_slot (h : CloneLog c0 d r n l c) (hs : c'.slot = c.slot) : CloneLog c0 d r n l c' :=
  h.of_sameStatus fun i => recordAt_congr hs i ▸ sameStatus_refl _

/-- The turn of slot `i`, the next one, is over when it was and nothing happened to the other slots. -/
theorem CloneLog.succ {i : Slot} (h : CloneLog c0 d r i.val l c) (hi : 1 ≤ i.val) (hs : ∀ j, j ≠ i → SameSlot l c l' c' j)
    (hover : TurnOver c0 l' c' i) : CloneLog c0 d r (i.val + 1) l' c' := by
  have hzero : (0 : Slot) ≠ i := fun h0 => by simp [← h0] at hi
  refine
    { h with
      answers := (hs 0 hzero).taken.trans h.answers
      reference := statusIs_of_sameStatus h.reference (hs 0 hzero).status
      behind := fun j hj hn => ?_
      ahead := fun j hj hn => (h.ahead j hj (Nat.le_of_succ_le hn)).congr (hs j fun hji => by simp [hji] at hn) }
  by_cases hji : j = i
  · exact hji ▸ hover
  · exact (h.behind j hj (Nat.lt_of_le_of_ne (Nat.le_of_lt_succ hn) fun hv => hji (Fin.ext hv))).congr (hs j hji)

/-- A slot that is not eligible has no turn. -/
theorem CloneLog.skip {i : Slot} (h : CloneLog c0 d r i.val l c) (hi : 1 ≤ i.val) (he : eligibleSlot c0 i = false) :
    CloneLog c0 d r (i.val + 1) l c :=
  h.succ hi (fun _ _ => ⟨rfl, sameStatus_refl _⟩) ⟨fun he' => absurd (he.symm.trans he') (by decide), fun _ => h.ahead i hi le_rfl⟩

/-- NEXT lets in the slots that were eligible at START (46 R226). -/
theorem CloneLog.eligible_iff {i : Slot} (h : CloneLog c0 d r i.val l c) (hi : 1 ≤ i.val) :
    eligibleSlot c0 i = true ↔ (recordAt c i).sizeMatch = .matching := by
  obtain ⟨-, hm, -⟩ := (h.ahead i hi le_rfl).status
  rw [eligibleSlot_iff, hm]
  exact and_iff_right hi

end

/-! ### The registers on the way -/

/-- What slot 0's good answers made of the registers, and no target's turn changes (46 R222). -/
structure CloneRegs (f : ErrCode) (z : ChipSize) (c : CtlRegs) : Prop where
  wf : c.wf = .write
  gerr : c.gerr = false
  runErr : c.runErr = .ok
  refValid : c.refValid = true
  refSize : c.refSize = z
  fatalCode : c.fatalCode = f

/-- The address `a` is that of the highest eligible slot below `n`, or 0 where there is none. -/
structure HighestEligible (c0 : CtlRegs) (n : Nat) (a : BitVec 4) : Prop where
  above : ∀ i : Slot, eligibleSlot c0 i = true → i.val < n → i.val ≤ a.toNat
  eligible : a = 0 ∨ ∃ i : Slot, eligibleSlot c0 i = true ∧ i.val = a.toNat

/-- No slot is under way, and the turns of the slots below `n` are over: the WRITE is in ARCHIVE or NEXT. -/
structure TurnDone (c0 : CtlRegs) (d r : Rsp) (n : Nat) (l : List Taken) (c : CtlRegs) : Prop where
  log : CloneLog c0 d r n l c
  regs : CloneRegs c0.fatalCode d.size c
  lamps : lampsDerived c
  act : c.act = false
  settleCtr : c.settleCtr = 0
  cur : c.cur.toNat + 1 = n
  cur_le : c.cur.toNat ≤ 15
  address : HighestEligible c0 n c.muxAddr

/-- The WRITE is on the eligible slot `i`, with the answers `l` taken before its turn. -/
structure OnTarget (c0 : CtlRegs) (d r : Rsp) (i : Slot) (l : List Taken) (c : CtlRegs) : Prop where
  log : CloneLog c0 d r i.val l c
  regs : CloneRegs c0.fatalCode d.size c
  eligible : eligibleSlot c0 i = true
  cur : i.val = c.cur.toNat
  phase : c.phase = .select ∨ c.phase = .settle ∨ c.phase = .write ∨ c.phase = .verify
  address : c.phase ≠ .select → c.muxAddr.toNat = i.val
  settled : c.phase ≠ .settle → c.settleCtr = 0

/-- The turn of target `i` begins: with its SELECT, or with the NEXT that passes it over (44 R181). -/
def TurnBegins (c0 : CtlRegs) (d r : Rsp) (i : Slot) (l : List Taken) (c : CtlRegs) : Prop :=
  (eligibleSlot c0 i = true ∧ OnTarget c0 d r i l c ∧ c.phase = .select) ∨
  (eligibleSlot c0 i = false ∧ TurnDone c0 d r (i.val + 1) l c ∧ c.phase = .next)

theorem HighestEligible.of_slot {c0 : CtlRegs} {i : Slot} {a : BitVec 4} (he : eligibleSlot c0 i = true) (ha : a.toNat = i.val) :
    HighestEligible c0 (i.val + 1) a :=
  ⟨fun _ _ hj => (Nat.le_of_lt_succ hj).trans_eq ha.symm, .inr ⟨i, he, ha.symm⟩⟩

/-- An ineligible slot leaves the highest eligible one what it is. -/
theorem HighestEligible.skip {c0 : CtlRegs} {i : Slot} {a : BitVec 4} (h : HighestEligible c0 i.val a)
    (he : eligibleSlot c0 i = false) : HighestEligible c0 (i.val + 1) a := by
  refine ⟨fun j hj hn => h.above j hj (Nat.lt_of_le_of_ne (Nat.le_of_lt_succ hn) fun hv => ?_), h.eligible⟩
  rw [Fin.ext hv, he] at hj
  exact absurd hj Bool.false_ne_true

/-! ### Slot 0's turn -/

theorem CloneRegs.readIssued {c0 c : CtlRegs} (h : Opening c0 .write c) (d : Rsp) :
    CloneRegs c0.fatalCode d.size (readIssued d c) := by
  rw [readIssued_eq]
  exact ⟨h.wf, h.quiet.gerr, h.quiet.runErr, rfl, rfl, h.quiet.fatalCode⟩

theorem Opening.exec_rsp_of_chip {c0 : CtlRegs} {s t : State} {d : Rsp} (h : Opening c0 .write s.ctl) (hp : s.ctl.phase = .detect)
    (hd : reportsChip d) (ht : exec (.rsp d) s = .next t) : t.ctl = Sys2Proof.readIssued d s.ctl := by
  rw [execRsp_detect d hp, detectOnRsp_in_write (s := s.quiet) h.cur h.wf] at ht
  cases ht
  exact refDetectedInWrite_of_chip hd s.quiet

/-- The OK READ answer ends slot 0's turn, with no target attempted yet (46 R224). -/
theorem Reading.image_taken {c0 : CtlRegs} {d r : Rsp} {s t : State} (h : Reading c0 d s.ctl)
    (hregs : CloneRegs c0.fatalCode d.size s.ctl) (hd : reportsChip d) (hok : r.status = .ok) (ht : exec (.rsp r) s = .next t) :
    TurnDone c0 d r 1 (referenceAnswers d r) t.ctl ∧ t.ctl.phase = .archive := by
  have hctl : t.ctl = imageTaken r s := by
    rw [execRsp_read r h.phase] at ht
    cases ht
    exact congrArg State.ctl ((readOnRsp_cases r s.quiet).resolve_right fun hfail => hfail.1 hok).2
  obtain ⟨hp, hm, -⟩ := h.reference
  have hstatus := statusIs_imageTaken r s
  rw [hp, hm] at hstatus
  have hlog : CloneLog c0 d r 1 (referenceAnswers d r) (imageTaken r s) :=
    { chip := hd
      read := hok
      answers := takenFor_of_slot slot_of_mem_referenceAnswers
      reference := hstatus
      behind := fun i hi hn => absurd hi (Nat.not_le.mpr hn)
      ahead := fun i hi _ =>
        have hne : i ≠ 0 := fun h0 => by simp [h0] at hi
        ⟨takenFor_of_other slot_of_mem_referenceAnswers hne,
         sameStatus_trans (h.targets.kept rfl i hne) (otherStatus_imageTaken r s i hne)⟩ }
  have hlamps := lampsDerived_imageTaken r s
  rw [hctl]
  rw [imageTaken_eq] at hlog hlamps ⊢
  exact ⟨
    { log := hlog
      regs := { hregs with }
      lamps := hlamps
      act := rfl
      settleCtr := h.on.settleCtr
      cur := by simp [h.on.cur]
      cur_le := by simp [h.on.cur]
      address := ⟨fun i he hn => absurd (eligibleSlot_iff.mp he).1 (Nat.not_le.mpr hn), .inl h.on.muxAddr⟩ }, rfl⟩

namespace TurnDone

variable {c0 : CtlRegs} {d r : Rsp} {n : Nat} {l : List Taken} {s t : State}

/-- ARCHIVE emits the store request and goes on to the first target (46 R225). -/
theorem archive (h : TurnDone c0 d r n l s.ctl) (hp : s.ctl.phase = .archive) (ht : exec .ctl s = .next t) :
    TurnDone c0 d r n l t.ctl ∧ t.ctl.phase = .next ∧ storesOf t = 1 := by
  rw [execCtl_archive hp] at ht
  cases ht
  exact ⟨{ h with log := h.log.of_slot rfl, regs := { h.regs with }, lamps := lampsDerived_phase _ _ h.lamps }, rfl, rfl⟩

/-- NEXT before slot 15 moves on, and selects the slot or passes it over as it was eligible at START (44 R181, 46 R226). -/
theorem exec_next {i : Slot} (h : TurnDone c0 d r i.val l s.ctl) (hp : s.ctl.phase = .next) (ht : exec .ctl s = .next t) :
    t.ctl = { s.ctl with cur := BitVec.ofNat 5 i.val, phase := if eligibleSlot c0 i then .select else .next } := by
  have hcur := h.cur
  have hif : (s.ctl.wf = .check ∨ (recordAt s.ctl i).sizeMatch = .matching) ↔ eligibleSlot c0 i = true := by
    rw [h.log.eligible_iff (by omega)]
    exact or_iff_right (by simp [h.regs.wf])
  rw [execCtl_next hp, nextOnCtl_to (s := s.quiet) hcur.symm] at ht
  cases ht
  simp only [State.withCtl_ctl, State.quiet_ctl, hif]

/-- NEXT begins the turn of the slot that follows, and after slot 15 ends the WRITE. -/
theorem next (h : TurnDone c0 d r n l s.ctl) (hp : s.ctl.phase = .next) (ht : exec .ctl s = .next t) :
    (∃ i : Slot, i.val = n ∧ TurnBegins c0 d r i l t.ctl) ∨ (n = 16 ∧ t.ctl = endWorkflow s.ctl) := by
  have hcur := h.cur
  rcases Nat.lt_or_ge s.ctl.cur.toNat 15 with hlt | hge
  · obtain ⟨i, rfl⟩ : ∃ i : Slot, i.val = n := ⟨⟨n, by omega⟩, rfl⟩
    have hi : (BitVec.ofNat 5 i.val).toNat = i.val := by
      rw [BitVec.toNat_ofNat]
      omega
    refine .inl ⟨i, rfl, ?_⟩
    rw [TurnBegins, h.exec_next hp ht]
    cases he : eligibleSlot c0 i with
    | true =>
      exact .inl ⟨rfl,
        { log := h.log.of_slot rfl, regs := { h.regs with }, eligible := he, cur := hi.symm, phase := .inl rfl
          address := fun hne => absurd rfl hne, settled := fun _ => h.settleCtr }, rfl⟩
    | false =>
      exact .inr ⟨rfl,
        { log := (h.log.skip (by omega) he).of_slot rfl, regs := { h.regs with }
          lamps := lampsDerived_phase _ .next (lampsDerived_withCur h.act (BitVec.ofNat 5 i.val) h.lamps)
          act := h.act, settleCtr := h.settleCtr, cur := congrArg Nat.succ hi
          cur_le := hi.trans_le (Nat.le_of_lt_succ i.isLt), address := h.address.skip he }, rfl⟩
  · have hlast : s.ctl.cur.toNat = 15 := Nat.le_antisymm h.cur_le hge
    rw [execCtl_next hp, nextOnCtl_ends (s := s.quiet) hlast] at ht
    cases ht
    exact .inr ⟨by omega, rfl⟩

end TurnDone

/-! ### A target's turn -/

namespace OnTarget

variable {c0 : CtlRegs} {d r : Rsp} {i : Slot} {l : List Taken} {s t : State}

theorem phase_ne {c : CtlRegs} (h : OnTarget c0 d r i l c) : c.phase ≠ .idle ∧ c.phase ≠ .archive := by
  rcases h.phase with hp | hp | hp | hp <;> simp [hp]

theorem pos {c : CtlRegs} (h : OnTarget c0 d r i l c) : 1 ≤ i.val := (eligibleSlot_iff.mp h.eligible).1

theorem selected (h : OnTarget c0 d r i l s.ctl) (hp : s.ctl.phase = .select) :
    ∃ u, exec .ctl s = .next u ∧ OnTarget c0 d r i l u.ctl ∧ u.ctl.phase = .settle ∧ u.ctl.settleCtr = s.tSettle := by
  have htarget : (addressed s.ctl).wf = .write ∧ 1 ≤ (addressed s.ctl).cur.toNat := ⟨h.regs.wf, h.cur ▸ h.pos⟩
  have haddr : (s.ctl.cur.setWidth 4).toNat = i.val := by
    have hlt := i.isLt
    rw [BitVec.toNat_setWidth, ← h.cur]
    omega
  have hlog : CloneLog c0 d r i.val l (selectedRegs (addressed s.ctl) s.tSettle) :=
    h.log.of_sameStatus fun j => by
      rw [selectedRegs_at_of_target htarget, addressed_at]
      exact sameStatus_relamp _ _
  refine ⟨_, (execCtl_select hp).trans (selectOnCtl_of_le (s := s.quiet) (h.cur ▸ Nat.le_of_lt_succ i.isLt)), ?_⟩
  rw [State.withCtl_ctl, State.quiet_ctl, State.quiet_tSettle]
  rw [selectedRegs_eq] at hlog ⊢
  exact ⟨{ h with log := hlog, regs := { h.regs with }, phase := .inr (.inl rfl), address := fun _ => haddr, settled := by simp },
    rfl, rfl⟩

theorem counted (h : OnTarget c0 d r i l s.ctl) (hp : s.ctl.phase = .settle) (hn : s.ctl.settleCtr ≠ 0) :
    ∃ u, exec .ctl s = .next u ∧ OnTarget c0 d r i l u.ctl ∧ u.ctl.phase = .settle ∧
      u.ctl.settleCtr = s.ctl.settleCtr - 1 := by
  refine ⟨_, execCtl_settle hp, ?_⟩
  rw [settleOnCtl_counts (s := s.quiet) hn, State.withCtl_ctl]
  exact ⟨{ h with log := h.log.of_slot rfl, regs := { h.regs with }, settled := fun hne => absurd hp hne }, hp, rfl⟩

theorem writing (h : OnTarget c0 d r i l s.ctl) (hp : s.ctl.phase = .settle) (hn : s.ctl.settleCtr = 0) :
    ∃ u, exec .ctl s = .next u ∧ OnTarget c0 d r i l u.ctl ∧ u.ctl.phase = .write := by
  have hwrites : ¬ (s.ctl.cur = 0 ∨ s.ctl.wf = .check) := by
    rintro (h0 | hc)
    · have hpos := h.pos
      simp [h.cur, h0] at hpos
    · exact absurd (h.regs.wf.symm.trans hc) (by decide)
  refine ⟨_, execCtl_settle hp, ?_⟩
  rw [settleOnCtl_writes (s := s.quiet) hn hwrites]
  exact ⟨{ h with log := h.log.of_slot rfl, regs := { h.regs with }, phase := .inr (.inr (.inl rfl))
                  address := fun _ => h.address (by simp [hp]), settled := fun _ => hn }, rfl⟩

/-- Before the request every CTL brings it one event nearer (44 R185). -/
theorem advances (h : OnTarget c0 d r i l s.ctl) (hp : s.ctl.phase = .select ∨ s.ctl.phase = .settle) :
    ∃ u, exec .ctl s = .next u ∧ OnTarget c0 d r i l u.ctl ∧ u.ctl.phase ≠ .verify ∧ runMeasure s = runMeasure u + 1 := by
  rcases hp with hp | hp
  · obtain ⟨u, hu, htarget, hpu, hctr⟩ := h.selected hp
    exact ⟨u, hu, htarget, by simp [hpu], by simp [runMeasure, hp, hpu, hctr]⟩
  · by_cases hn : s.ctl.settleCtr = 0
    · obtain ⟨u, hu, htarget, hpu⟩ := h.writing hp hn
      exact ⟨u, hu, htarget, by simp [hpu], by simp [runMeasure, hp, hpu, hn]⟩
    · obtain ⟨u, hu, htarget, hpu, hctr⟩ := h.counted hp hn
      have hdown : s.ctl.settleCtr.toNat = (s.ctl.settleCtr - 1).toNat + 1 := by bv_omega
      exact ⟨u, hu, htarget, by simp [hpu], by simp only [runMeasure, hp, hpu, hctr, hdown]⟩

/-- The answers that end the attempt record their result and end the turn (46 R228, R230). -/
theorem attempt_ended {c : CtlRegs} (h : OnTarget c0 d r i l c) (hp : c.phase = .write ∨ c.phase = .verify) {as : List Taken}
    {k : OpResult} (hk : AttemptAnswers i as k) :
    TurnDone c0 d r (i.val + 1) (l ++ as) (turnEnded c fun ri => { ri with lastOpResult := k }) := by
  have haddr := h.address (by rcases hp with hp | hp <;> simp [hp])
  have hctr := h.settled (by rcases hp with hp | hp <;> simp [hp])
  obtain ⟨hnone, hpres, hm, -⟩ := h.log.ahead i h.pos le_rfl
  have hstatus := statusIs_turnEnded h.cur k
  rw [hpres, hm] at hstatus
  have htaken : takenFor (l ++ as) i = as := by rw [takenFor_append, hnone, takenFor_of_slot hk.slot, List.nil_append]
  have hattempt : Attempted c0 (l ++ as) (turnEnded c fun ri => { ri with lastOpResult := k }) i k :=
    ⟨by rwa [htaken], hstatus⟩
  have hlog := h.log.succ h.pos (l' := l ++ as) (c' := turnEnded c fun ri => { ri with lastOpResult := k })
    (fun j hj => ⟨by rw [takenFor_append, takenFor_of_other hk.slot hj, List.append_nil], otherStatus_turnEnded h.cur _ j hj⟩)
    ⟨fun _ => ⟨k, hattempt⟩, fun he => absurd (he.symm.trans h.eligible) (by decide)⟩
  have hlamps := lampsDerived_turnEnded c fun ri => { ri with lastOpResult := k }
  rw [turnEnded_eq] at hlog hlamps ⊢
  exact
    { log := hlog, regs := { h.regs with }, lamps := hlamps, act := rfl, settleCtr := hctr, cur := congrArg Nat.succ h.cur.symm
      cur_le := h.cur ▸ Nat.le_of_lt_succ i.isLt, address := .of_slot h.eligible haddr }

/-- The WRITE answer leads to VERIFY, or ends the turn (46 R228). -/
theorem write_answered (h : OnTarget c0 d r i l s.ctl) (hp : s.ctl.phase = .write) {w : Rsp} (ht : exec (.rsp w) s = .next t) :
    (w.status = .ok ∧ OnTarget c0 d r i l t.ctl ∧ t.ctl.phase = .verify) ∨
    (w.status ≠ .ok ∧ TurnDone c0 d r (i.val + 1) (l ++ [{ phase := .write, slot := i.val, rsp := w }]) t.ctl ∧
      t.ctl.phase = .next) := by
  rw [execRsp_write w hp] at ht
  obtain rfl := Host.Outcome.next.inj ht
  rcases writeOnRsp_cases w s.quiet with ⟨hok, e⟩ | ⟨hfail, e⟩ <;> rw [e]
  · exact .inl ⟨hok,
      { h with log := h.log.of_slot rfl, regs := { h.regs with }, phase := .inr (.inr (.inr rfl))
               address := fun _ => h.address (by simp [hp]), settled := fun _ => h.settled (by simp [hp]) }, rfl⟩
  · rw [attemptDone_eq_turnEnded]
    exact .inr ⟨hfail, h.attempt_ended (.inl hp) (.inl ⟨w, rfl, hfail, rfl⟩), rfl⟩

/-- The VERIFY answer ends the turn (46 R230). -/
theorem verify_answered (h : OnTarget c0 d r i l s.ctl) (hp : s.ctl.phase = .verify) {w x : Rsp} (hw : w.status = .ok)
    (ht : exec (.rsp x) s = .next t) :
    TurnDone c0 d r (i.val + 1)
        (l ++ [{ phase := .write, slot := i.val, rsp := w }, { phase := .verify, slot := i.val, rsp := x }]) t.ctl ∧
      t.ctl.phase = .next := by
  rw [execRsp_verify x hp, verifyOnRsp, attemptDone_eq_turnEnded] at ht
  obtain rfl := Host.Outcome.next.inj ht
  exact ⟨h.attempt_ended (.inr hp) (.inr ⟨w, x, rfl, hw, rfl⟩), rfl⟩

end OnTarget

end Sys2Proof
end

section
/-! A whole WRITE from START: every run that is not aborted, whatever is mixed in, and the bare sequence with its counts (46 R220, R231,
44 R185). -/

namespace Sys2Proof

open Machine

/-! ### Runs with other events mixed in -/

theorem execTick_archReq {s t : State} (h : exec .tick s = .next t) : t.out.archReq = false := by
  rcases execTick_next h with ⟨-, rfl⟩ | ⟨-, -, rfl⟩ | ⟨-, -, rfl⟩
  · rfl
  · rw [lampTick_eq]
    rfl
  · rcases bootTick_cases s.quiet with ⟨-, e⟩ | ⟨-, e⟩ <;> rw [e] <;> rfl

theorem execSample_archReq {rC rW : Bool} {s t : State} (h : exec (.sample rC rW) s = .next t) : t.out.archReq = false := by
  rcases execSample_next h with ⟨-, rfl⟩ | ⟨-, rfl⟩
  · rfl
  · rw [sampleButtons_out]
    rfl

/-- In ARCHIVE too only the CTL emits `arch_req` (47 R259). -/
theorem storesOf_exec_of_ne_ctl {i : Instr} {s t : State} (hi : i.isEvent = true) (hr : notReset i = true) (hc : i ≠ .ctl)
    (h : exec i s = .next t) : storesOf t = 0 := by
  have hout : t.out.archReq = false := by
    rcases isEvent_cases hi with ⟨dip, resOk, rfl⟩ | rfl | rfl | ⟨rC, rW, rfl⟩ | ⟨r, rfl⟩
    · exact absurd hr Bool.false_ne_true
    · exact absurd rfl hc
    · exact execTick_archReq h
    · exact execSample_archReq h
    · exact execRsp_archReq h
  rw [storesOf, hout]
  rfl

/-- A WRITE from START on, as far as its answers, its STORE and its registers tell it. -/
inductive WriteCourse (c0 : CtlRegs) : List Taken → Nat → State → Prop where
  | start {s : State} (h : s.ctl = c0) : WriteCourse c0 [] 0 s
  | opening {s : State} (h : Opening c0 .write s.ctl) : WriteCourse c0 [] 0 s
  | reading {d : Rsp} {s : State} (hd : reportsChip d) (h : Reading c0 d s.ctl) (hregs : CloneRegs c0.fatalCode d.size s.ctl) :
      WriteCourse c0 [{ phase := .detect, slot := 0, rsp := d }] 0 s
  | archive {d r : Rsp} {l : List Taken} {s : State} (hp : s.ctl.phase = .archive) (h : TurnDone c0 d r 1 l s.ctl) :
      WriteCourse c0 l 0 s
  | next {d r : Rsp} {n : Nat} {l : List Taken} {s : State} (hp : s.ctl.phase = .next) (h : TurnDone c0 d r n l s.ctl) :
      WriteCourse c0 l 1 s
  | target {d r : Rsp} {i : Slot} {l : List Taken} {s : State} (hp : s.ctl.phase ≠ .verify) (h : OnTarget c0 d r i l s.ctl) :
      WriteCourse c0 l 1 s
  | verify {d r w : Rsp} {i : Slot} {l : List Taken} {s : State} (hp : s.ctl.phase = .verify) (hw : w.status = .ok)
      (h : OnTarget c0 d r i l s.ctl) : WriteCourse c0 (l ++ [{ phase := .write, slot := i.val, rsp := w }]) 1 s
  | complete {d r : Rsp} {l : List Taken} {c : CtlRegs} {s : State} (h : TurnDone c0 d r 16 l c) (he : s.ctl = endWorkflow c) :
      WriteCourse c0 l 1 s
  | aborted {l : List Taken} {n : Nat} {s : State} (hp : s.ctl.phase = .idle) (hg : s.ctl.gerr = true) : WriteCourse c0 l n s

section
variable {c0 : CtlRegs} {d r : Rsp} {i : Slot} {n : Nat} {l : List Taken} {s t : State}

/-- Slot 0's DETECT answer in a WRITE. -/
theorem WriteCourse.of_detect (h : Opening c0 .write s.ctl) (hp : s.ctl.phase = .detect) (ht : exec (.rsp d) s = .next t) :
    WriteCourse c0 [{ phase := .detect, slot := 0, rsp := d }] 0 t := by
  by_cases hd : reportsChip d
  · exact .reading hd (h.chip_in_write hp hd ht) (h.exec_rsp_of_chip hp hd ht ▸ .readIssued h d)
  · obtain ⟨hidle, hgerr⟩ := (h.no_chip (by decide) hp hd ht).idle
    exact .aborted hidle hgerr

/-- Slot 0's READ answer. -/
theorem WriteCourse.of_read (h : Reading c0 d s.ctl) (hregs : CloneRegs c0.fatalCode d.size s.ctl) (hd : reportsChip d)
    (ht : exec (.rsp r) s = .next t) : WriteCourse c0 (referenceAnswers d r) 0 t := by
  by_cases hok : r.status = .ok
  · obtain ⟨hdone, hp⟩ := h.image_taken hregs hd hok ht
    exact .archive hp hdone
  · obtain ⟨-, hend⟩ := (h.answered hd ht).resolve_left fun hpast => hok hpast.1
    obtain ⟨hidle, hgerr⟩ := hend.idle
    exact .aborted hidle hgerr

theorem WriteCourse.of_next (h : TurnDone c0 d r n l s.ctl) (hp : s.ctl.phase = .next) (ht : exec .ctl s = .next t) :
    WriteCourse c0 l 1 t := by
  rcases h.next hp ht with ⟨i, -, ⟨-, htarget, hsel⟩ | ⟨-, hdone, hskip⟩⟩ | ⟨rfl, he⟩
  · exact .target (by simp [hsel]) htarget
  · exact .next hskip hdone
  · exact .complete h he

/-- The answer in WRITE; in VERIFY there is one more to come. -/
theorem WriteCourse.of_write (h : OnTarget c0 d r i l s.ctl) (hp : s.ctl.phase = .write) {w : Rsp} (ht : exec (.rsp w) s = .next t) :
    WriteCourse c0 (l ++ [{ phase := .write, slot := i.val, rsp := w }]) 1 t := by
  rcases h.write_answered hp ht with ⟨hok, htarget, hpv⟩ | ⟨-, hdone, hpn⟩
  · exact .verify hpv hok htarget
  · exact .next hpn hdone

/-- Up to its WRITE answer a target waits for nothing else. -/
theorem OnTarget.phase_of_wait {c : CtlRegs} (h : OnTarget c0 d r i l c) (hp : c.phase ≠ .verify) (hw : isWait c.phase = true) :
    c.phase = .write := by
  rcases h.phase with hp' | hp' | hp' | hp' <;> simp_all [isWait]

/-- A CTL before the request leads on in the turn. -/
theorem OnTarget.ctl (h : OnTarget c0 d r i l s.ctl) (hp : s.ctl.phase ≠ .verify) (hw : isWait s.ctl.phase = false)
    (ht : exec .ctl s = .next t) : OnTarget c0 d r i l t.ctl ∧ t.ctl.phase ≠ .verify := by
  have hbefore : s.ctl.phase = .select ∨ s.ctl.phase = .settle := by
    rcases h.phase with hp' | hp' | hp' | hp' <;> simp_all [isWait]
  obtain ⟨u, hu, htarget, hpu, -⟩ := h.advances hbefore
  obtain rfl : u = t := Host.Outcome.next.inj (hu.symm.trans ht)
  exact ⟨htarget, hpu⟩

end

theorem WriteCourse.event {c0 : CtlRegs} {l : List Taken} {n : Nat} {s t : State} {i : Instr} (hstart : c0.phase = .start ∧ c0.wf = .write)
    (h : WriteCourse c0 l n s) (hi : i.isEvent = true) (hr : notReset i = true) (hp : s.ctl.phase ≠ .idle) (ht : exec i s = .next t) :
    WriteCourse c0 (l ++ takenBy i s) (n + storesOf t) t := by
  obtain ⟨hp0, hw0⟩ := hstart
  have hcases := event_cases hi hr hp ht
  cases h with
  | start h =>
    subst h
    rw [storesOf_exec hi (by simp [hp0]) ht]
    rcases hcases with ⟨hnone, hctl⟩ | ⟨hnone, rfl, -⟩ | ⟨r, -, hwait, -⟩
    · rw [hnone]
      exact .start hctl
    · rw [hnone]
      exact .opening (hw0 ▸ (Opening.start hp0 ht).1)
    · exact absurd hwait (by simp [hp0, isWait])
  | opening h =>
    rw [storesOf_exec hi h.quiet.phase_ne_archive ht]
    rcases hcases with ⟨hnone, hctl⟩ | ⟨hnone, rfl, hwait⟩ | ⟨r, rfl, hwait, htaken⟩
    · rw [hnone]
      exact .opening (hctl ▸ h)
    · rw [hnone]
      exact .opening (h.ctl hwait ht)
    · have hpd := h.quiet.phase_of_wait hwait
      rw [htaken, hpd, h.cur]
      exact .of_detect h hpd ht
  | reading hd h hregs =>
    rw [storesOf_exec hi (by simp [h.phase]) ht]
    rcases hcases with ⟨hnone, hctl⟩ | ⟨-, -, hwait⟩ | ⟨r, rfl, -, htaken⟩
    · rw [hnone]
      exact .reading hd (hctl ▸ h) (hctl ▸ hregs)
    · exact absurd hwait (by simp [h.phase, isWait])
    · rw [htaken, h.phase, h.on.cur]
      exact .of_read h hregs hd ht
  | archive hpa h =>
    by_cases hc : i = .ctl
    · subst hc
      obtain ⟨hdone, hpn, hstore⟩ := h.archive hpa ht
      rw [hstore]
      exact (List.append_nil l).symm ▸ .next hpn hdone
    · rw [storesOf_exec_of_ne_ctl hi hr hc ht]
      rcases hcases with ⟨hnone, hctl⟩ | ⟨-, rfl, -⟩ | ⟨r, -, hwait, -⟩
      · rw [hnone, List.append_nil]
        exact .archive (hctl ▸ hpa) (hctl ▸ h)
      · exact absurd rfl hc
      · exact absurd hwait (by simp [hpa, isWait])
  | next hpn h =>
    rw [storesOf_exec hi (by simp [hpn]) ht]
    rcases hcases with ⟨hnone, hctl⟩ | ⟨hnone, rfl, -⟩ | ⟨r, -, hwait, -⟩
    · rw [hnone, List.append_nil]
      exact .next (hctl ▸ hpn) (hctl ▸ h)
    · rw [hnone, List.append_nil]
      exact .of_next h hpn ht
    · exact absurd hwait (by simp [hpn, isWait])
  | target hpv h =>
    rw [storesOf_exec hi h.phase_ne.2 ht]
    rcases hcases with ⟨hnone, hctl⟩ | ⟨hnone, rfl, hwait⟩ | ⟨w, rfl, hwait, htaken⟩
    · rw [hnone, List.append_nil]
      exact .target (hctl ▸ hpv) (hctl ▸ h)
    · rw [hnone, List.append_nil]
      obtain ⟨htarget, hpt⟩ := h.ctl hpv hwait ht
      exact .target hpt htarget
    · have hpw := h.phase_of_wait hpv hwait
      rw [htaken, hpw, ← h.cur]
      exact .of_write h hpw ht
  | @verify _ _ w _ l _ hpv hw h =>
    rw [storesOf_exec hi h.phase_ne.2 ht]
    rcases hcases with ⟨hnone, hctl⟩ | ⟨-, -, hwait⟩ | ⟨x, rfl, -, htaken⟩
    · rw [hnone, List.append_nil]
      exact .verify (hctl ▸ hpv) hw (hctl ▸ h)
    · exact absurd hwait (by simp [hpv, isWait])
    · obtain ⟨hdone, hpn⟩ := h.verify_answered hpv hw ht
      rw [htaken, hpv, ← h.cur, List.append_assoc]
      exact .next hpn hdone
  | complete _ he => exact absurd (by rw [he]; rfl) hp
  | aborted hidle _ => exact absurd hidle hp

/-- In IDLE with no global error shown the WRITE is complete. -/
theorem WriteCourse.complete_of_idle {c0 : CtlRegs} {l : List Taken} {n : Nat} {s : State} (hp0 : c0.phase = .start)
    (h : WriteCourse c0 l n s) (hidle : s.ctl.phase = .idle) (hg : s.ctl.gerr = false) :
    n = 1 ∧ ∃ d r c, TurnDone c0 d r 16 l c ∧ s.ctl = endWorkflow c := by
  cases h with
  | start h => exact absurd (hp0.symm.trans (h ▸ hidle)) (by decide)
  | opening h => exact absurd hidle h.quiet.phase_ne_idle
  | reading _ h _ => exact absurd (h.phase.symm.trans hidle) (by decide)
  | archive hp _ => exact absurd (hp.symm.trans hidle) (by decide)
  | next hp _ => exact absurd (hp.symm.trans hidle) (by decide)
  | target _ h => exact absurd hidle h.phase_ne.1
  | verify hp _ _ => exact absurd (hp.symm.trans hidle) (by decide)
  | complete h he => exact ⟨rfl, _, _, _, h, he⟩
  | aborted _ hgerr => exact absurd (hg.symm.trans hgerr) (by decide)

/-! ### What a complete WRITE leaves -/

section
variable {c0 c : CtlRegs} {d r : Rsp} {l : List Taken}

/-- Between turns a record is its status and the lamp that the status gives. -/
theorem TurnDone.record_of_status {n : Nat} {i : Slot} {p : Presence} {m : SizeMatch} {k : OpResult} (h : TurnDone c0 d r n l c)
    (hs : statusIs (recordAt c i) p m k) :
    recordAt c i = { presence := p, sizeMatch := m, lastOpResult := k, ledMode := ledModeOf p m k .norm } := by
  have hled := h.lamps i
  obtain ⟨rfl, rfl, rfl⟩ := hs
  rw [ctxOf_of_quiet h.regs.gerr h.act] at hled
  rw [← hled]

theorem TurnDone.turnOver (h : TurnDone c0 d r 16 l c) {i : Slot} (hi : 1 ≤ i.val) : TurnOver c0 l c i :=
  h.log.behind i hi i.isLt

/-- An attempted target has the lamp of its result, and all else as START found it (46 R231). -/
theorem TurnDone.record_of_attempted {n : Nat} {i : Slot} {k : OpResult} (h : TurnDone c0 d r n l c) (ha : Attempted c0 l c i k) :
    recordAt c i =
      { recordAt c0 i with lastOpResult := k, ledMode := if k = .success then .on else .fastBlink } := by
  rw [h.record_of_status ha.status, ledModeOf_norm_of_result ha.answers.ne_none]

/-- A target left alone has its record from before START, where START found its lamp derived in the same context (46 R231). -/
theorem TurnDone.record_of_untouched {n : Nat} {i : Slot} (h : TurnDone c0 d r n l c) (hu : Untouched c0 l c i)
    (hg : c0.gerr = false) (ha : c0.act = false) (hled : lampsDerived c0) : recordAt c i = recordAt c0 i := by
  have hled0 := hled i
  rw [ctxOf_of_quiet hg ha] at hled0
  rw [h.record_of_status hu.status, ← hled0]

/-- The registers a complete WRITE leaves (46 R231). -/
theorem TurnDone.endWorkflow_eq (h : TurnDone c0 d r 16 l c) :
    endWorkflow c =
      { slot := (endWorkflow c).slot, phase := .idle, wf := .none, cur := 15, settleCtr := 0, gerr := false, act := false,
        refValid := true, refSize := d.size, refImage := none, runErr := .ok, fatalCode := c0.fatalCode,
        muxAddr := (endWorkflow c).muxAddr } := by
  have hcur : c.cur = 15 := BitVec.eq_of_toNat_eq (Nat.succ.inj h.cur)
  obtain ⟨-, hgerr, hrun, hvalid, hsize, hcode⟩ := h.regs
  rw [endWorkflow, hcur, h.settleCtr, h.act, hgerr, hrun, hvalid, hsize, hcode]

theorem TurnDone.lampsDerived_endWorkflow {n : Nat} (h : TurnDone c0 d r n l c) : lampsDerived (endWorkflow c) :=
  lampsDerived_congr (c := c) rfl rfl rfl rfl h.lamps

end

/-! ### The bare sequence -/

/-- The events `es`, CTL events and answers that are waited for, run from `s` to `t`, and none of them finds the engine in IDLE. -/
inductive Bare : List Instr → State → State → Prop where
  | nil (s : State) : Bare [] s s
  | ctl {es : List Instr} {s u t : State} (hp : s.ctl.phase ≠ .idle) (hu : exec .ctl s = .next u) (h : Bare es u t) :
      Bare (.ctl :: es) s t
  | rsp {x : Rsp} {es : List Instr} {s u t : State} (hw : isWait s.ctl.phase = true) (hu : exec (.rsp x) s = .next u) (h : Bare es u t) :
      Bare (.rsp x :: es) s t

namespace Bare

theorem append {es fs : List Instr} {s u t : State} (h : Bare es s u) (k : Bare fs u t) : Bare (es ++ fs) s t := by
  induction h with
  | nil => exact k
  | ctl hp hu _ ih => exact .ctl hp hu (ih k)
  | rsp hw hu _ ih => exact .rsp hw hu (ih k)

theorem of_leads {n : Nat} {s t : State} (h : Leads (List.replicate n .ctl) s t) : Bare (List.replicate n .ctl) s t := by
  induction n generalizing s with
  | zero =>
    cases h
    exact .nil t
  | succ n ih =>
    cases h with
    | cons hp hu h => exact .ctl hp hu (ih h)

theorem tSettle {es : List Instr} {s t : State} (h : Bare es s t) : t.tSettle = s.tSettle := by
  induction h with
  | nil => rfl
  | ctl _ hu _ ih => exact ih.trans (hostFrame_exec rfl hu).tSettle
  | rsp _ hu _ ih => exact ih.trans (hostFrame_exec rfl hu).tSettle

/-- Where such a sequence ends in IDLE it is a run to IDLE, and it takes every one of its answers. -/
theorem runWorkflow {es : List Instr} {s t : State} (h : Bare es s t) (hidle : t.ctl.phase = .idle) :
    ∃ e, runWorkflow es s = some e ∧ e.last = t ∧ e.taken.map (fun a => Instr.rsp a.rsp) = es.filter (· ≠ .ctl) := by
  induction h with
  | nil => exact ⟨_, if_pos hidle, rfl, rfl⟩
  | ctl hp hu _ ih =>
    obtain ⟨e, he, hlast, htaken⟩ := ih hidle
    exact ⟨_, (runWorkflow_cons hp hu).trans (congrArg (Option.map _) he), hlast, by simpa [takenBy] using htaken⟩
  | @rsp x es s u t hw hu _ ih =>
    obtain ⟨e, he, hlast, htaken⟩ := ih hidle
    have hp : s.ctl.phase ≠ .idle := fun hp => by simp [hp, isWait] at hw
    refine ⟨_, (runWorkflow_cons hp hu).trans (congrArg (Option.map _) he), hlast, ?_⟩
    simpa [takenBy, outstanding, hw] using htaken

end Bare

section
variable {c0 : CtlRegs} {d r : Rsp} {i : Slot} {n : Nat} {l : List Taken} {s : State}

/-- From a target's SELECT, T_SETTLE + 2 CTL events lead to its WRITE (44 R185). -/
theorem OnTarget.leads_to_write (h : OnTarget c0 d r i l s.ctl) (hp : s.ctl.phase ≠ .verify) (hn : runMeasure s = n) :
    ∃ u, Leads (List.replicate n .ctl) s u ∧ OnTarget c0 d r i l u.ctl ∧ u.ctl.phase = .write := by
  induction n generalizing s with
  | zero =>
    have hwrite : s.ctl.phase = .write := by
      rcases h.phase with hp' | hp' | hp' | hp' <;> simp_all [runMeasure]
    exact ⟨s, .nil s, h, hwrite⟩
  | succ n ih =>
    have hbefore : s.ctl.phase = .select ∨ s.ctl.phase = .settle := by
      rcases h.phase with hp' | hp' | hp' | hp' <;> simp_all [runMeasure]
    obtain ⟨u, hu, htarget, hpu, hm⟩ := h.advances hbefore
    obtain ⟨v, hleads, hend⟩ := ih htarget hpu (Nat.succ.inj (hm.symm.trans hn))
    exact ⟨v, .cons h.phase_ne.1 hu hleads, hend⟩

/-- The answers of a target's turn in the bare sequence (46 R228, R230). -/
def attemptEvents (w v : Rsp) : List Instr := if w.status = .ok then [.rsp w, .rsp v] else [.rsp w]

theorem OnTarget.bare_answers (h : OnTarget c0 d r i l s.ctl) (hp : s.ctl.phase = .write) (w v : Rsp) :
    ∃ t l', Bare (attemptEvents w v) s t ∧ TurnDone c0 d r (i.val + 1) l' t.ctl ∧ t.ctl.phase = .next := by
  obtain ⟨u, hu⟩ := execRsp_completes w s
  have hwait : isWait s.ctl.phase = true := by rw [hp]; rfl
  rcases h.write_answered hp hu with ⟨hok, htarget, hpu⟩ | ⟨hfail, hdone, hpu⟩
  · obtain ⟨t, ht⟩ := execRsp_completes v u
    obtain ⟨hdone, hpt⟩ := htarget.verify_answered hpu hok ht
    rw [attemptEvents, if_pos hok]
    exact ⟨t, _, .rsp hwait hu (.rsp (by rw [hpu]; rfl) ht (.nil t)), hdone, hpt⟩
  · rw [attemptEvents, if_neg hfail]
    exact ⟨u, _, .rsp hwait hu (.nil u), hdone, hpu⟩

/-- The NEXT that begins the following slot's turn, or ends the WRITE. -/
theorem TurnDone.bare_next (h : TurnDone c0 d r n l s.ctl) (hp : s.ctl.phase = .next) :
    ∃ t, Bare [.ctl] s t ∧
      ((∃ j : Slot, j.val = n ∧ TurnBegins c0 d r j l t.ctl) ∨ (n = 16 ∧ t.ctl.phase = .idle ∧ t.ctl.gerr = false)) := by
  have ht := execCtl_next hp
  refine ⟨_, .ctl (by simp [hp]) ht (.nil _), (h.next hp ht).imp_right fun hend => ?_⟩
  obtain ⟨hn, he⟩ := hend
  rw [he]
  exact ⟨hn, rfl, h.regs.gerr⟩

/-- A turn of the bare sequence, up to the next turn or to IDLE. -/
theorem TurnBegins.bare_turn (h : TurnBegins c0 d r i l s.ctl) (w v : Rsp) :
    ∃ t l', Bare (writeTurn s.tSettle.toNat (eligibleSlot c0 i) w v) s t ∧
      ((∃ j : Slot, j.val = i.val + 1 ∧ TurnBegins c0 d r j l' t.ctl) ∨
       (i.val + 1 = 16 ∧ t.ctl.phase = .idle ∧ t.ctl.gerr = false)) := by
  rcases h with ⟨he, htarget, hp⟩ | ⟨he, hdone, hp⟩
  · obtain ⟨u, hu, htu, hpu⟩ := htarget.leads_to_write (by simp [hp]) (n := s.tSettle.toNat + 2) (by simp [runMeasure, hp])
    obtain ⟨x, l', hx, hdone, hpx⟩ := htu.bare_answers hpu w v
    obtain ⟨t, ht, hend⟩ := hdone.bare_next hpx
    rw [he]
    exact ⟨t, l', ((Bare.of_leads hu).append hx).append ht, hend⟩
  · obtain ⟨t, ht, hend⟩ := hdone.bare_next hp
    rw [he]
    exact ⟨t, l, ht, hend⟩

theorem drop_finRange (i : Slot) : (List.finRange 16).drop i.val = i :: (List.finRange 16).drop (i.val + 1) := by
  rw [List.drop_eq_getElem_cons (by simp), List.getElem_finRange]
  rfl

/-- The turns of slot `i` and all after it. -/
theorem TurnBegins.bare_turns {m T : Nat} (h : TurnBegins c0 d r i l s.ctl) (hm : i.val + m = 15) (hT : s.tSettle.toNat = T)
    (w v : Vector Rsp 16) :
    ∃ t, Bare (((List.finRange 16).drop i.val).flatMap fun j => writeTurn T (eligibleSlot c0 j) w[j] v[j]) s t ∧
      t.ctl.phase = .idle ∧ t.ctl.gerr = false := by
  induction m generalizing i l s with
  | zero =>
    subst hT
    obtain ⟨t, l', ht, ⟨j, hj, -⟩ | ⟨-, hend⟩⟩ := h.bare_turn w[i] v[i]
    · omega
    · have hlast : (List.finRange 16).drop (i.val + 1) = [] := List.drop_eq_nil_of_le (by simp; omega)
      rw [drop_finRange, hlast, List.flatMap_singleton]
      exact ⟨t, ht, hend⟩
  | succ m ih =>
    subst hT
    obtain ⟨u, l', hu, ⟨j, hj, hbegins⟩ | ⟨hlast, -⟩⟩ := h.bare_turn w[i] v[i]
    · obtain ⟨t, ht, hend⟩ := ih hbegins (by omega) (congrArg BitVec.toNat hu.tSettle)
      rw [hj] at ht
      rw [drop_finRange, List.flatMap_cons]
      exact ⟨t, hu.append ht, hend⟩
    · omega

end

/-- The whole bare sequence runs to IDLE with no global error. -/
theorem bare_writeWorkflow {s : State} {d r : Rsp} (hp : s.ctl.phase = .start) (hw : s.ctl.wf = .write) (hd : reportsChip d)
    (hok : r.status = .ok) (w v : Vector Rsp 16) :
    ∃ t, Bare (writeWorkflow s.tSettle.toNat s.ctl d r w v) s t ∧ t.ctl.phase = .idle ∧ t.ctl.gerr = false := by
  obtain ⟨a, ha, hopen, hpa⟩ := leads_to_reference hp
  rw [hw] at hopen
  obtain ⟨b, hb⟩ := execRsp_completes d a
  have hreading := hopen.chip_in_write hpa hd hb
  obtain ⟨x, hx⟩ := execRsp_completes r b
  obtain ⟨hread, hpx⟩ := hreading.image_taken (hopen.exec_rsp_of_chip hpa hd hb ▸ .readIssued hopen d) hd hok hx
  have hy := execCtl_archive hpx
  obtain ⟨hdone, hpy, -⟩ := hread.archive hpx hy
  obtain ⟨z, hz, ⟨i, hi, hbegins⟩ | ⟨h16, -⟩⟩ := hdone.bare_next hpy
  · have hzero := (Bare.of_leads ha).append
      (.rsp (by rw [hpa]; rfl) hb (.rsp (by rw [hreading.phase]; rfl) hx (.ctl (by simp [hpx]) hy hz)))
    obtain ⟨t, ht, hend⟩ := hbegins.bare_turns (m := 14) (by omega) (congrArg BitVec.toNat hzero.tSettle) w v
    rw [hi] at ht
    exact ⟨t, hzero.append ht, hend⟩
  · exact absurd h16 (by decide)

/-! ### Counting the bare sequence -/

/-- A turn has one NEXT and, where the slot is eligible, T_SETTLE + 2 CTL events before it (44 R185). -/
theorem count_writeTurn (T : Nat) (b : Bool) (w v : Rsp) : (writeTurn T b w v).count .ctl = 1 + if b then T + 2 else 0 := by
  cases b with
  | false => rfl
  | true =>
    have hanswers : (attemptEvents w v).count .ctl = 0 := by
      unfold attemptEvents
      split_ifs <;> simp
    change (List.replicate (T + 2) Instr.ctl ++ attemptEvents w v ++ [Instr.ctl]).count .ctl = _
    rw [List.count_append, List.count_append, hanswers, List.count_replicate_self]
    simp [Nat.add_comm]

/-- A turn of an eligible slot has two answers, or one where its WRITE fails. -/
theorem length_writeTurn (T : Nat) (b : Bool) (w v : Rsp) :
    (writeTurn T b w v).length + (if b && decide (w.status ≠ .ok) then 1 else 0) =
      (writeTurn T b w v).count .ctl + if b then 2 else 0 := by
  rw [count_writeTurn]
  cases b with
  | false => rfl
  | true =>
    by_cases hw : w.status = .ok <;> simp [writeTurn, hw] <;> omega

section
variable (T : Nat) (p : Slot → Bool) (w v : Vector Rsp 16)

theorem count_writeTurns (is : List Slot) :
    (is.flatMap fun i => writeTurn T (p i) w[i] v[i]).count .ctl = is.length + is.countP p * (T + 2) := by
  induction is with
  | nil => simp
  | cons i is ih =>
    rw [List.flatMap_cons, List.count_append, count_writeTurn, ih, List.length_cons, List.countP_cons, Nat.add_mul]
    split_ifs <;> omega

theorem length_writeTurns (is : List Slot) :
    (is.flatMap fun i => writeTurn T (p i) w[i] v[i]).length + is.countP (fun i => p i && decide (w[i].status ≠ .ok)) =
      (is.flatMap fun i => writeTurn T (p i) w[i] v[i]).count .ctl + 2 * is.countP p := by
  induction is with
  | nil => rfl
  | cons i is ih =>
    have hturn := length_writeTurn T (p i) w[i] v[i]
    rw [List.flatMap_cons, List.length_append, List.count_append, List.countP_cons, List.countP_cons]
    split_ifs at hturn ⊢ <;> omega

/-- Slot 0 is no target. -/
theorem countP_targets {p : Slot → Bool} (h : p 0 = false) : ((List.finRange 16).drop 1).countP p = (List.finRange 16).countP p := by
  have hcons := drop_finRange 0
  rw [Fin.val_zero, List.drop_zero] at hcons
  rw [hcons, List.countP_cons, h]
  rfl

end

theorem eligibleSlot_zero (c : CtlRegs) : eligibleSlot c 0 = false := rfl

/-- After slot 0's two answers there is one ARCHIVE and one NEXT. -/
theorem count_slotZeroEvents (d r : Rsp) : [Instr.rsp d, .rsp r, .ctl, .ctl].count .ctl = 2 := by
  simp

/-- The CTL events of a whole WRITE (44 R185). -/
theorem count_writeWorkflow (T : Nat) (c : CtlRegs) (d r : Rsp) (w v : Vector Rsp 16) :
    (writeWorkflow T c d r w v).count .ctl = T + 20 + (List.finRange 16).countP (eligibleSlot c) * (T + 2) := by
  rw [writeWorkflow, List.count_append, List.count_append, List.count_replicate_self, count_slotZeroEvents, count_writeTurns,
    countP_targets (eligibleSlot_zero c), List.length_drop, List.length_finRange]
  omega

/-- Its answers: slot 0's two, and two for each eligible slot but one where the WRITE fails. -/
theorem length_writeWorkflow (T : Nat) (c : CtlRegs) (d r : Rsp) (w v : Vector Rsp 16) :
    (writeWorkflow T c d r w v).length +
        (List.finRange 16).countP (fun i => eligibleSlot c i && decide (w[i].status ≠ .ok)) =
      (writeWorkflow T c d r w v).count .ctl + 2 + 2 * (List.finRange 16).countP (eligibleSlot c) := by
  have hturns := length_writeTurns T (eligibleSlot c) w v ((List.finRange 16).drop 1)
  rw [countP_targets (eligibleSlot_zero c), countP_targets (by rw [eligibleSlot_zero]; rfl)] at hturns
  rw [writeWorkflow, List.length_append, List.length_append, List.count_append, List.count_append, List.count_replicate_self,
    List.length_replicate, count_slotZeroEvents]
  simp only [List.length_cons, List.length_nil]
  omega

/-! ### The statement -/

/-- Settles O56: the bare sequence is counted and runs to IDLE; and a run that is not aborted is complete, with every target's turn over. -/
theorem writeWorkflowResult : Obligations.WriteWorkflowResult := by
  refine ⟨fun s d r w v hp hw hd hok => ?bare, fun s e hend hg => ?mixed⟩
  case bare =>
    obtain ⟨t, ht, hidle, hgerr⟩ := bare_writeWorkflow hp hw hd hok w v
    obtain ⟨e, he, rfl, htaken⟩ := ht.runWorkflow hidle
    exact ⟨count_writeWorkflow _ _ _ _ _ _, length_writeWorkflow _ _ _ _ _ _, e, he, hgerr, htaken⟩
  case mixed =>
    obtain ⟨hp, hw, es, hes, hrun⟩ := hend
    obtain ⟨hcourse, hidle⟩ := runWorkflow_induction (P := WriteCourse s.ctl)
      (fun _ _ _ _ _ h hi hr hp' ht => h.event ⟨hp, hw⟩ hi hr hp' ht) (.start rfl) hes hrun
    obtain ⟨hstores, d, r, c, hdone, he⟩ := hcourse.complete_of_idle hp hidle hg
    rw [List.nil_append] at hdone
    rw [Nat.zero_add] at hstores
    simp only [he, endWorkflow_at, WorkflowEnd.takenAt_eq]
    refine ⟨d, r, hdone.log.answers, hdone.log.chip, hdone.log.read, hstores, hdone.record_of_status hdone.log.reference,
      fun i helig => ?attempted, fun i hi helig => ?skipped, hdone.lampsDerived_endWorkflow,
      fun i helig => hdone.address.above i helig i.isLt, hdone.address.eligible, hdone.endWorkflow_eq⟩
    case attempted =>
      obtain ⟨k, hk⟩ := (hdone.turnOver (eligibleSlot_iff.mp helig).1).attempted helig
      exact ⟨k, hk.answers, hk.answers.ne_none, hdone.record_of_attempted hk⟩
    case skipped =>
      have hu := (hdone.turnOver hi).skipped helig
      exact ⟨hu.taken, hu.status, hdone.record_of_untouched hu⟩

end Sys2Proof
end

section
/-! Operations one by one: every one of them answers, in FATAL all but RESET and STAT do nothing, and only a failed range check or a
RESET halts the engine (60 R271, R280, R287, 40 R112). -/

namespace Sys2Proof.Machine

/-! ### Updates that do not halt the engine -/

/-- An update that leads into FATAL from FATAL only. -/
def KeepsRunning (f : State → State) : Prop := ∀ u : State, u.ctl.phase ≠ .fatal → (f u).ctl.phase ≠ .fatal

theorem keepsRunning_of_ctl {f : State → State} (h : ∀ u, (f u).ctl = u.ctl) : KeepsRunning f := fun u hu => by
  rw [h]
  exact hu

theorem keepsRunning_of_phase {f : State → State} {p : Phase} (hp : p ≠ .fatal) (h : ∀ u, (f u).ctl.phase = p) : KeepsRunning f :=
  fun u _ => by
    rw [h]
    exact hp

theorem commandPhase_ne_fatal {p : Phase} (hp : p ≠ .fatal) (cmd : FaCmd) : commandPhase p cmd ≠ .fatal := by
  cases cmd with
  | noCmd => exact hp
  | detect | read | write | verify => exact Phase.noConfusion

theorem keepsRunning_issueCommand (cmd : FaCmd) : KeepsRunning fun u => issueCommand u cmd :=
  fun _ hu => commandPhase_ne_fatal hu cmd

theorem keepsRunning_bootOnCtl : KeepsRunning bootOnCtl := fun u hu => by
  unfold bootOnCtl
  split
  · exact Phase.noConfusion
  · exact hu

theorem keepsRunning_settleOnCtl : KeepsRunning settleOnCtl := fun u hu => by
  rcases settleOnCtl_cases u with ⟨-, e⟩ | ⟨cmd, -, e⟩ <;> rw [e]
  · exact hu
  · exact keepsRunning_issueCommand cmd u hu

theorem keepsRunning_nextOnCtl : KeepsRunning nextOnCtl := fun u _ => by
  rcases nextOnCtl_cases u with ⟨-, e⟩ | ⟨-, p, rfl | rfl, e⟩ <;> rw [e] <;> exact Phase.noConfusion

theorem keepsRunning_detectOnRsp (r : Rsp) : KeepsRunning (detectOnRsp r) := fun u hu => by
  rcases detectOnRsp_cases r u with ⟨-, e⟩ | ⟨-, -, e⟩ | ⟨-, -, e⟩ | ⟨-, -, e⟩ <;> rw [e]
  · rw [targetDetected_eq]
    exact Phase.noConfusion
  · rcases refDetectedInCheck_cases r u with ⟨-, e⟩ | ⟨-, e⟩ <;> rw [e] <;> exact Phase.noConfusion
  · rcases refDetectedInWrite_cases r u with ⟨-, e⟩ | ⟨-, e⟩ <;> rw [e] <;> exact Phase.noConfusion
  · exact hu

theorem keepsRunning_readOnRsp (r : Rsp) : KeepsRunning (readOnRsp r) := fun u _ => by
  rcases readOnRsp_cases r u with ⟨-, e⟩ | ⟨-, e⟩ <;> rw [e] <;> exact Phase.noConfusion

theorem keepsRunning_attemptDone (k : OpResult) : KeepsRunning (attemptDone k) :=
  keepsRunning_of_phase (p := .next) Phase.noConfusion fun u => by
    rw [attemptDone_eq]
    rfl

theorem keepsRunning_writeOnRsp (r : Rsp) : KeepsRunning (writeOnRsp r) := fun u hu => by
  rcases writeOnRsp_cases r u with ⟨-, e⟩ | ⟨-, e⟩ <;> rw [e]
  · exact keepsRunning_issueCommand .verify u hu
  · exact keepsRunning_attemptDone _ u hu

theorem keepsRunning_sampleButtons (rC rW : Bool) : KeepsRunning (sampleButtons rC rW) := fun u hu => by
  rw [sampleButtons_ctl]
  split_ifs
  · exact Phase.noConfusion
  · exact Phase.noConfusion
  · exact hu

theorem bootTick_ctl (s : State) : (bootTick s).ctl = s.ctl := by
  rcases bootTick_cases s with ⟨-, e⟩ | ⟨-, e⟩ <;> rw [e]

theorem debounceButton_ctl (s : State) (b : Button) (f : BitVec 4 → DebounceResult) : (debounceButton s b f).ctl = s.ctl := by
  cases b <;> rfl

/-! ### Every operation but RESET and STAT -/

/-- The operation `i` checks the index `n` against the range of slots in `s`: SELECT by itself, and the CTL of SELECT (40 R113). -/
inductive Selects : Instr → State → Nat → Prop where
  | select (n : BitVec 5) (s : State) : Selects (.select n) s n.toNat
  | phSelect (s : State) : Selects (.phSelect .ctl) s s.ctl.cur.toNat
  | ctl {s : State} (hp : s.ctl.phase = .select) : Selects .ctl s s.ctl.cur.toNat

/-- In `s` the operation `i` is an update that does not halt the engine, done while the engine runs. -/
def Updates (i : Instr) (s : State) : Prop :=
  ∃ f : State → State, KeepsRunning f ∧ exec i s = whileRunning s fun u => .next (f u)

/-- In `s` the operation `i` is a range check of a slot index and then, where it passes, an update that does not halt the engine. -/
def UpdatesSelected (i : Instr) (s : State) : Prop :=
  ∃ (n : Nat) (f : State → State), Selects i s n ∧ KeepsRunning f ∧
    exec i s = whileRunning s fun u => selectThen u n fun v => .next (f v)

theorem Updates.congr {i j : Instr} {s : State} (h : Updates j s) (e : exec i s = exec j s) : Updates i s := by
  obtain ⟨f, hf, hj⟩ := h
  exact ⟨f, hf, e.trans hj⟩

theorem updates_of_quiet {i : Instr} {s : State} (h : exec i s = .next s.quiet) : Updates i s :=
  ⟨id, fun _ hu => hu, h.trans (whileRunning_next_eq s).symm⟩

theorem updates_phaseInstr_ctl {p : Phase} (hp : p ≠ .select) (s : State) : Updates (phaseInstr .ctl p) s := by
  cases p with
  | boot => exact ⟨bootOnCtl, keepsRunning_bootOnCtl, rfl⟩
  | start => exact ⟨startOnCtl, keepsRunning_of_phase (p := .select) Phase.noConfusion fun _ => rfl, rfl⟩
  | select => exact absurd rfl hp
  | settle => exact ⟨settleOnCtl, keepsRunning_settleOnCtl, rfl⟩
  | archive => exact ⟨archiveOnCtl, keepsRunning_of_phase (p := .next) Phase.noConfusion fun _ => rfl, rfl⟩
  | next => exact ⟨nextOnCtl, keepsRunning_nextOnCtl, rfl⟩
  | fatal => exact updates_of_quiet rfl
  | idle => exact updates_of_quiet (whileRunning_next_eq s)
  | detect | read | write | verify => exact updates_of_quiet (exec_phaseInstr_ctl_of_wait rfl s)

theorem updates_phaseInstr_rsp (r : Rsp) (p : Phase) (s : State) : Updates (phaseInstr (.rsp r) p) s := by
  cases p with
  | detect => exact ⟨detectOnRsp r, keepsRunning_detectOnRsp r, rfl⟩
  | read => exact ⟨readOnRsp r, keepsRunning_readOnRsp r, rfl⟩
  | write => exact ⟨writeOnRsp r, keepsRunning_writeOnRsp r, rfl⟩
  | verify => exact ⟨verifyOnRsp r, keepsRunning_attemptDone _, rfl⟩
  | boot | idle | start | select | settle | archive | next | fatal =>
    exact updates_of_quiet (exec_phaseInstr_rsp_of_not_wait rfl r s)

theorem updates_phaseInstr (e : CtlEvent) {p : Phase} (hp : p ≠ .select) (s : State) : Updates (phaseInstr e p) s := by
  cases e with
  | ctl => exact updates_phaseInstr_ctl hp s
  | rsp r => exact updates_phaseInstr_rsp r p s

theorem updatesSelected_phSelect (s : State) : UpdatesSelected (.phSelect .ctl) s := by
  refine ⟨s.ctl.cur.toNat, fun u => u.withCtl (selectedRegs u.ctl u.tSettle), .phSelect s, ?_, rfl⟩
  refine keepsRunning_of_phase (p := .settle) Phase.noConfusion fun u => ?_
  rw [selectedRegs_eq]
  rfl

/-- A CTL is the operation of the current phase (44 R171), and in SELECT it checks `cur` (44 R178). -/
theorem exec_ctl_updates (s : State) : Updates .ctl s ∨ UpdatesSelected .ctl s := by
  by_cases hp : s.ctl.phase = .select
  · obtain ⟨n, f, hn, hf, e⟩ := updatesSelected_phSelect s
    cases hn
    exact .inr ⟨_, f, .ctl hp, hf, (exec_phaseInstr_ctl hp).symm.trans e⟩
  · exact .inl ((updates_phaseInstr_ctl hp s).congr (execCtl_eq_phaseInstr s))

theorem updates_tick (s : State) : Updates .tick s := by
  cases hb : s.sched.bootDone with
  | true =>
    refine ⟨lampTick, keepsRunning_of_ctl lampTick_ctl, ?_⟩
    simp only [exec, execTick, whileRunning, State.quiet_sched, hb, if_true]
  | false =>
    refine ⟨bootTick, keepsRunning_of_ctl bootTick_ctl, ?_⟩
    simp only [exec, execTick, whileRunning, State.quiet_sched, hb, Bool.false_eq_true, if_false]

theorem updates_ledModeInstr (i : Slot) (m : LedMode) (s : State) : Updates (ledModeInstr i m) s :=
  ⟨fun u => blinkSlot u i (blink m), keepsRunning_of_ctl fun _ => rfl, exec_ledModeInstr i m s⟩

theorem updates_debounceInstr (b : Button) (r : Bool) (d : DbState) (s : State) : Updates (debounceInstr b r d) s :=
  ⟨_, keepsRunning_of_ctl fun u => debounceButton_ctl u b _, exec_debounceInstr b r d s⟩

/-- Everything an operation but RESET and STAT can be (60 R271, R280; the operations by themselves: log entry 8). -/
theorem exec_updates {i : Instr} (hr : notReset i = true) (hs : ∀ k, i ≠ .stat k) (s : State) : Updates i s ∨ UpdatesSelected i s := by
  cases i with
  | reset dip resOk => exact absurd hr Bool.false_ne_true
  | ctl => exact exec_ctl_updates s
  | tick => exact .inl (updates_tick s)
  | sample rC rW => exact .inl ⟨sampleButtons rC rW, keepsRunning_sampleButtons rC rW, rfl⟩
  | rsp r => exact .inl ((updates_phaseInstr_rsp r s.ctl.phase s).congr (execRsp_eq_phaseInstr r s))
  | phBoot e => exact .inl (updates_phaseInstr e (p := .boot) Phase.noConfusion s)
  | phIdle e => exact .inl (updates_phaseInstr e (p := .idle) Phase.noConfusion s)
  | phStart e => exact .inl (updates_phaseInstr e (p := .start) Phase.noConfusion s)
  | phSelect e =>
    cases e with
    | ctl => exact .inr (updatesSelected_phSelect s)
    | rsp r => exact .inl (updates_phaseInstr_rsp r .select s)
  | phSettle e => exact .inl (updates_phaseInstr e (p := .settle) Phase.noConfusion s)
  | phDetect e => exact .inl (updates_phaseInstr e (p := .detect) Phase.noConfusion s)
  | phRead e => exact .inl (updates_phaseInstr e (p := .read) Phase.noConfusion s)
  | phArchive e => exact .inl (updates_phaseInstr e (p := .archive) Phase.noConfusion s)
  | phWrite e => exact .inl (updates_phaseInstr e (p := .write) Phase.noConfusion s)
  | phVerify e => exact .inl (updates_phaseInstr e (p := .verify) Phase.noConfusion s)
  | phNext e => exact .inl (updates_phaseInstr e (p := .next) Phase.noConfusion s)
  | phFatal e => exact .inl (updates_phaseInstr e (p := .fatal) Phase.noConfusion s)
  | blOff k => exact .inl (updates_ledModeInstr k .off s)
  | blOn k => exact .inl (updates_ledModeInstr k .on s)
  | blSlow k => exact .inl (updates_ledModeInstr k .slowBlink s)
  | blFast k => exact .inl (updates_ledModeInstr k .fastBlink s)
  | blData k => exact .inl (updates_ledModeInstr k .dataActivity s)
  | dbIdle b r => exact .inl (updates_debounceInstr b r .idle s)
  | dbPend b r => exact .inl (updates_debounceInstr b r .pressedPending s)
  | dbConf b r => exact .inl (updates_debounceInstr b r .pressedConfirmed s)
  | dbRel b r => exact .inl (updates_debounceInstr b r .released s)
  | detect => exact .inl ⟨_, keepsRunning_issueCommand .detect, rfl⟩
  | read => exact .inl ⟨_, keepsRunning_issueCommand .read, rfl⟩
  | write => exact .inl ⟨_, keepsRunning_issueCommand .write, rfl⟩
  | verify => exact .inl ⟨_, keepsRunning_issueCommand .verify, rfl⟩
  | select n => exact .inr ⟨_, id, .select n s, fun _ hu => hu, rfl⟩
  | stat k => exact absurd rfl (hs k)
  | store => exact .inl ⟨emitStore, keepsRunning_of_ctl fun _ => rfl, rfl⟩
  | render p => exact .inl ⟨fun u => renderPattern u p, keepsRunning_of_ctl fun _ => rfl, rfl⟩

theorem reset_of_notReset_eq_false {i : Instr} (h : notReset i = false) : ∃ dip resOk, i = .reset dip resOk := by
  cases i with
  | reset dip resOk => exact ⟨dip, resOk, rfl⟩
  | _ => exact Bool.noConfusion h

/-! ### What follows of each -/

theorem Updates.completes {i : Instr} {s : State} (h : Updates i s) : ∃ t, exec i s = .next t := by
  obtain ⟨f, -, e⟩ := h
  rw [e]
  by_cases hp : s.ctl.phase = .fatal
  · exact ⟨_, whileRunning_of_fatal hp⟩
  · exact ⟨_, whileRunning_of_ne hp⟩

theorem UpdatesSelected.completes {i : Instr} {s : State} (h : UpdatesSelected i s) : ∃ t, exec i s = .next t := by
  obtain ⟨n, f, -, -, e⟩ := h
  rw [e]
  by_cases hp : s.ctl.phase = .fatal
  · exact ⟨_, whileRunning_of_fatal hp⟩
  · rw [whileRunning_of_ne hp]
    rcases Nat.lt_or_ge 15 n with hn | hn
    · exact ⟨_, selectThen_of_gt hn⟩
    · exact ⟨_, selectThen_of_le hn⟩

/-- Every operation answers a next state in every state (60 R271). -/
theorem exec_completes (i : Instr) (s : State) : ∃ t, exec i s = .next t := by
  cases i with
  | reset dip resOk => cases resOk <;> exact ⟨_, rfl⟩
  | stat k => exact ⟨_, rfl⟩
  | _ => exact (exec_updates rfl (fun _ => Instr.noConfusion) s).elim Updates.completes UpdatesSelected.completes

/-- In FATAL every agent has stopped (60 R280). -/
theorem exec_of_fatal {i : Instr} {s : State} (hp : s.ctl.phase = .fatal) (hr : notReset i = true) (hs : ∀ k, i ≠ .stat k) :
    exec i s = .next s.quiet := by
  rcases exec_updates hr hs s with ⟨f, -, e⟩ | ⟨n, f, -, -, e⟩
  · rw [e, whileRunning_of_fatal hp]
  · rw [e, whileRunning_of_fatal hp]

/-- Of the operations but RESET a failed range check alone halts the engine (40 R112, 60 R280). -/
theorem exec_enters_fatal {i : Instr} {s t : State} (hr : notReset i = true) (hp : s.ctl.phase ≠ .fatal) (h : exec i s = .next t)
    (ht : t.ctl.phase = .fatal) : ∃ n, Selects i s n ∧ 15 < n := by
  by_cases hs : ∃ k, i = .stat k
  · obtain ⟨k, rfl⟩ := hs
    cases h
    exact absurd ht hp
  · rcases exec_updates hr (not_exists.mp hs) s with ⟨f, hf, e⟩ | ⟨n, f, hn, hf, e⟩ <;> rw [e, whileRunning_of_ne hp] at h
    · cases h
      exact absurd ht (hf s.quiet hp)
    · rcases selectThen_next h with ⟨hlt, -⟩ | ⟨-, hk⟩
      · exact ⟨n, hn, hlt⟩
      · cases hk
        exact absurd ht (hf _ hp)

end Sys2Proof.Machine

namespace Sys2Proof

open Machine

/-- Settles O19: RESET and STAT aside, every operation is an agent's, and in FATAL the agents have stopped. -/
theorem fatalAbsorbs : Obligations.FatalAbsorbs := fun _ _ hp hr hs => exec_of_fatal hp hr hs

/-- Settles O20: RESET by its `res_ok`, STAT leaves the phase, and of the others a range check alone halts the engine. -/
theorem fatalEnteredAndLeft : Obligations.FatalEnteredAndLeft := by
  intro i s t h
  cases hr : notReset i with
  | false =>
    obtain ⟨dip, resOk, rfl⟩ := reset_of_notReset_eq_false hr
    rcases execReset_next h with ⟨rfl, rfl⟩ | ⟨rfl, rfl⟩
    · exact ⟨fun ht _ => absurd ht Phase.noConfusion, fun _ _ => ⟨dip, rfl⟩⟩
    · exact ⟨fun _ _ => .inl ⟨dip, rfl⟩, fun _ ht => absurd rfl ht⟩
  | true =>
    refine ⟨fun ht hp => ?entered, fun hp ht => ?left⟩
    case entered =>
      obtain ⟨n, hn, hlt⟩ := exec_enters_fatal hr hp h ht
      cases hn with
      | select n => exact .inr (.inl ⟨n, rfl, hlt⟩)
      | phSelect => exact .inr (.inr ⟨hlt, .inl rfl⟩)
      | ctl hsel => exact .inr (.inr ⟨hlt, .inr ⟨rfl, hsel⟩⟩)
    case left =>
      by_cases hs : ∃ k, i = .stat k
      · obtain ⟨k, rfl⟩ := hs
        cases h
        exact absurd hp ht
      · rw [exec_of_fatal hp hr (not_exists.mp hs)] at h
        cases h
        exact absurd hp ht

/-- Settles O48: the operation does nothing, and in FATAL it is the operation of the current phase. -/
theorem fatalPhase : Obligations.FatalPhase := by
  refine ⟨phaseCode_phaseInstr .fatal, fun s e => ⟨?_, fun hp => ⟨?_, fun r => ?_⟩⟩⟩
  · cases e <;> rfl
  · exact (exec_phaseInstr_ctl hp).symm
  · exact (exec_phaseInstr_rsp hp r).symm

end Sys2Proof
end

section
/-! The startup animation: what any events but RESET make of the engine until the 17th TICK, and how the CTL after it opens IDLE
(42 R140, 44 R175, 70 R313). -/

namespace Sys2Proof.Machine

/-- Everything a run of a sequence can answer is a next state (60 R271). -/
theorem runInstrs_completes (is : List Instr) (s : State) : ∃ t, runInstrs is s = .next t := by
  induction is generalizing s with
  | nil => exact ⟨s, rfl⟩
  | cons i is ih =>
    obtain ⟨u, hu⟩ := exec_completes i s
    rw [runInstrs_cons hu]
    exact ih u

/-- The pseudo-operation BOOT: sixteen TICKs that light a lamp, the one that ends the animation, and a CTL (30_encoding R99). -/
theorem scriptBoot_eq : scriptBoot = scriptTicks 16 ++ [.tick, .ctl] := rfl

/-- The engine after RESET and `n` TICKs of the animation: in BOOT, the `n`-th lamp lit alone, or none before the first TICK. -/
structure Booting (n : Nat) (s : State) : Prop where
  phase : s.ctl.phase = .boot
  bootDone : s.sched.bootDone = false
  bootCtr : s.sched.bootCtr.toNat = n
  ledVisible : s.sched.ledVisible = if n = 0 then 0 else 1#16 <<< (n - 1)

theorem booting_resetRegs (dip : BitVec 32) (s : State) : Booting 0 (resetRegs dip s) := ⟨rfl, rfl, rfl, rfl⟩

theorem Booting.exec_tick {n : Nat} {s : State} (h : Booting n s) : exec .tick s = .next (bootTick s.quiet) :=
  execTick_of_booting (by simp [h.phase]) h.bootDone

/-- The next TICK of the animation lights the next lamp alone (42 R140). -/
theorem Booting.tick {n : Nat} {s t : State} (h : Booting n s) (hn : n < 16) (ht : exec .tick s = .next t) : Booting (n + 1) t := by
  have hctr : s.sched.bootCtr.toNat = n := h.bootCtr
  rw [h.exec_tick] at ht
  cases ht
  rcases bootTick_cases s.quiet with ⟨-, e⟩ | ⟨hle, -⟩
  · rw [e]
    refine ⟨h.phase, h.bootDone, ?_, ?_⟩
    · show (s.sched.bootCtr + 1).toNat = n + 1
      bv_omega
    · show 1#16 <<< s.sched.bootCtr.toNat = _
      rw [hctr, if_neg n.succ_ne_zero, Nat.add_sub_cancel]
  · have hle' : 16 ≤ s.sched.bootCtr.toNat := hle
    omega

/-- The TICK after the last lamp ends the animation, all lamps dark (42 R140). -/
theorem Booting.last_tick {s : State} (h : Booting 16 s) : ∃ t, exec .tick s = .next t ∧
    t.ctl.phase = .boot ∧ t.sched.bootDone = true ∧ t.sched.ledVisible = 0 := by
  refine ⟨_, h.exec_tick, ?_⟩
  rcases bootTick_cases s.quiet with ⟨hlt, -⟩ | ⟨-, e⟩
  · exact absurd h.bootCtr (Nat.ne_of_lt hlt)
  · rw [e]
    exact ⟨h.phase, rfl, rfl⟩

/-- Before the animation is over BOOT is left by RESET only (44 R175). -/
theorem Booting.of_ne_tick {n : Nat} {i : Instr} {s t : State} (h : Booting n s) (hi : i.isEvent = true) (hr : notReset i = true)
    (hne : i ≠ .tick) (ht : exec i s = .next t) : Booting n t := by
  have hsched := exec_sched_of_ne_tick hi hr hne ht
  have hctl : t.ctl = s.ctl := by
    have hidle : s.ctl.phase ≠ .idle := by simp [h.phase]
    rcases event_cases hi hr hidle ht with ⟨-, hctl⟩ | ⟨-, rfl, -⟩ | ⟨r, -, hw, -⟩
    · exact hctl
    · rw [execCtl_boot h.phase, bootOnCtl, State.quiet_sched, h.bootDone] at ht
      cases ht
      rfl
    · rw [h.phase] at hw
      exact absurd hw Bool.false_ne_true
  exact ⟨hctl ▸ h.phase, hsched ▸ h.bootDone, hsched ▸ h.bootCtr, hsched ▸ h.ledVisible⟩

/-- Whatever is mixed in, the TICKs alone advance the animation (70 R313). -/
theorem Booting.run {n : Nat} {es : List Instr} {s t : State} (h : Booting n s)
    (hes : ∀ i ∈ es, i.isEvent = true ∧ notReset i = true) (hn : n + es.count .tick ≤ 16) (hrun : runInstrs es s = .next t) :
    Booting (n + es.count .tick) t := by
  induction es generalizing n s with
  | nil => cases hrun; exact h
  | cons i es ih =>
    obtain ⟨u, hu, hrest⟩ := runInstrs_cons_next hrun
    obtain ⟨hi, hr⟩ := hes i List.mem_cons_self
    have hes' : ∀ j ∈ es, j.isEvent = true ∧ notReset j = true := fun j hj => hes j (List.mem_cons_of_mem i hj)
    by_cases hit : i = .tick
    · subst hit
      rw [List.count_cons_self, Nat.add_comm _ 1, ← Nat.add_assoc] at hn ⊢
      exact ih (h.tick (by omega) hu) hes' hn hrest
    · rw [List.count_cons_of_ne hit] at hn ⊢
      exact ih (h.of_ne_tick hi hr hit hu) hes' hn hrest

end Sys2Proof.Machine

namespace Sys2Proof

open Machine

/-- Settles O23: RESET begins the animation and the events before the 17th TICK advance it; the pseudo-operation BOOT is sixteen of its
TICKs, the one that ends it, and the CTL that then opens IDLE. -/
theorem startupSequence : Obligations.StartupSequence := by
  refine ⟨fun s t dip es hes hn hrun => ?mixed, fun s dip => ?bare⟩
  case mixed =>
    obtain ⟨u, hu, hrest⟩ := runInstrs_cons_next hrun
    cases hu
    have h := (booting_resetRegs dip s).run hes (by omega) hrest
    rw [Nat.zero_add] at h
    exact ⟨h.phase, h.bootDone, h.bootCtr, h.ledVisible⟩
  case bare =>
    have hticks : ∀ i ∈ scriptTicks 16, i.isEvent = true ∧ notReset i = true := fun i hi => by
      rw [List.eq_of_mem_replicate hi]
      exact ⟨rfl, rfl⟩
    obtain ⟨u, hu⟩ := runInstrs_completes (scriptTicks 16) (resetRegs dip s)
    have hcount : 0 + (scriptTicks 16).count .tick = 16 := by rw [scriptTicks, List.count_replicate_self]
    have hbooted := (booting_resetRegs dip s).run hticks hcount.le hu
    rw [hcount] at hbooted
    obtain ⟨v, hv, hphase, hdone, hdark⟩ := hbooted.last_tick
    have hctl : exec .ctl v = .next (v.quiet.toPhase .idle) := by
      rw [execCtl_boot hphase, bootOnCtl, State.quiet_sched, hdone, if_pos rfl]
    refine ⟨v.quiet.toPhase .idle, ?_, rfl, hdone, hdark⟩
    calc runInstrs (.reset dip true :: scriptBoot) s
        = runInstrs scriptBoot (resetRegs dip s) := runInstrs_cons rfl
      _ = runInstrs (scriptTicks 16 ++ [.tick, .ctl]) (resetRegs dip s) := by rw [scriptBoot_eq]
      _ = runInstrs [.tick, .ctl] u := runInstrs_append hu
      _ = runInstrs [.ctl] v := runInstrs_cons hv
      _ = .next (v.quiet.toPhase .idle) := runInstrs_cons hctl

end Sys2Proof
end

section
/-! The two situations of 60 R285: the CTL that ends a workflow or the startup opens IDLE, and a SAMPLE beside it comes first or second. -/

namespace Sys2Proof.Machine

/-- The next CTL opens IDLE: it ends a workflow, or BOOT (60 R285 (a), (b)). -/
abbrev opensIdle (s : State) : Prop :=
  (s.ctl.phase = .next ∧ s.ctl.cur = 15) ∨ (s.ctl.phase = .boot ∧ s.sched.bootDone = true)

theorem opensIdle_running {s : State} (h : opensIdle s) : s.ctl.phase ≠ .fatal ∧ s.ctl.phase ≠ .idle := by
  rcases h with ⟨hp, -⟩ | ⟨hp, -⟩ <;> rw [hp] <;> decide

theorem execCtl_of_opensIdle {s : State} (h : opensIdle s) :
    ∃ t, exec .ctl s = .next t ∧ t.ctl.phase = .idle ∧ t.samp = s.samp ∧ (s.ctl.phase = .next → t.ctl.wf = .none) := by
  rcases h with ⟨hp, hcur⟩ | ⟨hp, hdone⟩
  · have hlast : s.quiet.ctl.cur.toNat = 15 := by simp [hcur]
    refine ⟨_, execCtl_next hp, ?_⟩
    rw [nextOnCtl_ends hlast]
    exact ⟨rfl, rfl, fun _ => rfl⟩
  · refine ⟨_, execCtl_boot hp, ?_⟩
    rw [bootOnCtl, State.quiet_sched, hdone, if_pos rfl]
    exact ⟨rfl, rfl, fun hn => absurd (hp.symm.trans hn) Phase.noConfusion⟩

/-- A confirmed press is accepted in IDLE, CHECK before WRITE (43 R158). -/
theorem sampleButtons_of_idle {rC rW : Bool} {s : State} (hp : s.ctl.phase = .idle)
    (he : (debounce s.samp.check rC).e = true ∨ (debounce s.samp.write rW).e = true) :
    (sampleButtons rC rW s).ctl =
      { s.ctl with wf := if (debounce s.samp.check rC).e = true then .check else .write, phase := .start } := by
  rw [sampleButtons_ctl]
  by_cases hC : (debounce s.samp.check rC).e = true
  · rw [if_pos ⟨hp, hC⟩, if_pos hC]
  · rw [if_neg fun h => hC h.2, if_pos ⟨hp, he.resolve_left hC⟩, if_neg hC]

end Sys2Proof.Machine

namespace Sys2Proof

open Machine

/-- Settles O18: after the CTL the SAMPLE finds IDLE and hands its press off; before it the SAMPLE leaves the Controller as it was, and the
CTL opens IDLE all the same. -/
theorem orderOfSampleAndController : Obligations.OrderOfSampleAndController := by
  intro s rC rW he hopens
  obtain ⟨hrun, hidle⟩ := opensIdle_running hopens
  refine ⟨?accepted, ?dropped⟩
  case accepted =>
    obtain ⟨u, hu, hp, hsamp, -⟩ := execCtl_of_opensIdle hopens
    have hsample : exec (.sample rC rW) u = .next (sampleButtons rC rW u.quiet) :=
      execSample_of_running (by simp [hp]) rC rW
    have hctl := sampleButtons_of_idle (s := u.quiet) hp (by rw [State.quiet_samp, hsamp]; exact he)
    refine ⟨_, (runInstrs_cons hu).trans (runInstrs_cons hsample), ?_⟩
    rw [hctl, State.quiet_samp, hsamp]
    exact ⟨rfl, rfl⟩
  case dropped =>
    have hsample := execSample_of_running hrun rC rW
    obtain ⟨hsched, -, -, hdropped⟩ := execSample_writes hsample
    have hctl := hdropped hidle
    have hopens' : opensIdle (sampleButtons rC rW s.quiet) := by rw [opensIdle, hctl, hsched]; exact hopens
    obtain ⟨t, ht, hp, -, hwf⟩ := execCtl_of_opensIdle hopens'
    rw [hctl] at hwf
    exact ⟨t, (runInstrs_cons hsample).trans (runInstrs_cons ht), hp, hwf⟩

end Sys2Proof
end

section
/-! RESET: what it makes of every register, and the invariant it establishes (70 R310, R312, 10_state R45). -/

namespace Sys2Proof.Machine

/-- T_SETTLE is at least 1 (00_scope R7). -/
theorem one_le_tSettle : 1 ≤ Config.tSettle.toNat := by
  unfold Config.tSettle
  split
  · decide
  · next h => exact Nat.one_le_iff_ne_zero.mpr fun h0 => h (BitVec.eq_of_toNat_eq h0)

@[simp] theorem recordAt_reset (i : Slot) : recordAt CtlRegs.reset i = SlotState.reset := by
  simp [recordAt, CtlRegs.reset]

@[simp] theorem lampAt_reset (i : Slot) : lampAt SchedRegs.reset i = { cnt := 0, lvl := false } := by
  simp [lampAt, SchedRegs.reset]

/-- The word of a RESET, field by field (30_encoding R98). -/
theorem encode_reset (dip : BitVec 32) (resOk : Bool) :
    encode (.reset dip resOk) = { port := .stimulus, code := 0b1111#4 ++ 0#3 ++ BitVec.ofBool resOk ++ dip } := by
  cases resOk <;> rfl

end Sys2Proof.Machine

namespace Sys2Proof

open Machine

/-- Settles O8: the word is the encoding of the event, and `res_ok` decides between the reset registers and those halted. -/
theorem resetResult : Obligations.ResetResult := by
  refine ⟨fun dip resOk => ?word, fun s dip resOk => ?effect⟩
  case word =>
    rw [← encode_reset]
    exact decode_encode_reset dip resOk
  case effect =>
    obtain ⟨t, ht⟩ := exec_completes (.reset dip resOk) s
    refine ⟨t, ht, ?_⟩
    rcases execReset_next ht with ⟨rfl, rfl⟩ | ⟨rfl, rfl⟩ <;>
      exact ⟨recordAt_reset, rfl, lampAt_reset, rfl, rfl, rfl, rfl, ⟨rfl, rfl, rfl⟩, rfl⟩

/-- Settles O9: the reset state is what RESET answers with `dip` 0 and `res_ok` 1, and nothing is pending. -/
theorem resetStateMeetsInvariant : Obligations.ResetStateMeetsInvariant where
  engine := engineInv_execReset (s := State.reset) (dip := 0) (resOk := true) one_le_tSettle rfl
  script := fun _ hu => absurd hu List.not_mem_nil

end Sys2Proof
end

section
/-! What the engine tells its neighbours: the one event that each output pulse belongs to (47 R250, R252, R259, 41 R123), and the status port
(47 R264). -/

namespace Sys2Proof.Machine

/-! ### Commands to the FlashAdapter -/

/-- The answers that a command follows at once: an OK to a WRITE, and a chip found in slot 0 by a WRITE (46 R222, R228). -/
abbrev answerIssues (r : Rsp) (s : State) : Prop :=
  r.status = .ok ∧ (s.ctl.phase = .write ∨ (s.ctl.phase = .detect ∧ r.flag = true ∧ s.ctl.cur = 0 ∧ s.ctl.wf = .write))

/-- The events that issue a command: the last CTL of SETTLE (44 R179), and such an answer. -/
abbrev issuesCommand (i : Instr) (s : State) : Prop :=
  (i = .ctl ∧ s.ctl.phase = .settle ∧ s.ctl.settleCtr = 0) ∨ ∃ r, i = .rsp r ∧ answerIssues r s

/-- The command `cmd` is on the pins, with its image, and its wait phase is entered (47 R252). -/
structure Issued (cmd : FaCmd) (t : State) : Prop where
  isCommand : cmd ≠ .noCmd
  phase : t.ctl.phase = commandPhase t.ctl.phase cmd
  out : t.out = requestPins cmd (commandImage t.ctl cmd)

theorem issued_issueCommand {cmd : FaCmd} (hcmd : cmd ≠ .noCmd) {s : State} (hout : s.out = OutPins.quiet) :
    Issued cmd (issueCommand s cmd) := by
  have hpins : (issueCommand s cmd).out = requestPins cmd (commandImage s.ctl cmd) := by
    rw [issueCommand_eq, hout]
    rfl
  cases cmd with
  | noCmd => exact absurd rfl hcmd
  | detect | read | write | verify => exact ⟨hcmd, rfl, hpins⟩

theorem execCtl_issues {s t : State} (hp : s.ctl.phase = .settle) (hctr : s.ctl.settleCtr = 0) (h : exec .ctl s = .next t) :
    ∃ cmd, Issued cmd t := by
  rw [execCtl_settle hp] at h
  cases h
  by_cases hd : s.ctl.cur = 0 ∨ s.ctl.wf = .check
  · rw [settleOnCtl_detects (s := s.quiet) hctr hd]
    exact ⟨.detect, issued_issueCommand FaCmd.noConfusion rfl⟩
  · rw [settleOnCtl_writes (s := s.quiet) hctr hd]
    exact ⟨.write, issued_issueCommand FaCmd.noConfusion rfl⟩

theorem execRsp_issues {r : Rsp} {s t : State} (hr : answerIssues r s) (h : exec (.rsp r) s = .next t) : ∃ cmd, Issued cmd t := by
  obtain ⟨hok, hp | ⟨hp, hflag, hcur, hw⟩⟩ := hr
  · rw [execRsp_write r hp, writeOnRsp, if_pos hok] at h
    cases h
    exact ⟨.verify, issued_issueCommand FaCmd.noConfusion rfl⟩
  · rw [execRsp_detect r hp, detectOnRsp_in_write (s := s.quiet) hcur hw] at h
    cases h
    obtain ⟨-, e⟩ := (refDetectedInWrite_cases r s.quiet).resolve_right fun hno => hno.1 ⟨hok, hflag⟩
    rw [e]
    exact ⟨.read, issued_issueCommand FaCmd.noConfusion rfl⟩

/-! ### Events of the Controller with no pulse -/

theorem execCtl_out_quiet {s t : State} (ha : s.ctl.phase ≠ .archive) (hs : ¬ (s.ctl.phase = .settle ∧ s.ctl.settleCtr = 0))
    (h : exec .ctl s = .next t) : t.out = OutPins.quiet := by
  rcases execCtl_next_cases h with ⟨-, rfl⟩ | ⟨-, rfl⟩ | ⟨-, hk⟩ | ⟨hp, rfl⟩ | ⟨hp, -⟩ | ⟨-, rfl⟩ | ⟨-, rfl⟩
  · unfold bootOnCtl
    split <;> rfl
  · rfl
  · rcases selectOnCtl_next hk with ⟨-, rfl⟩ | ⟨-, rfl⟩ <;> rfl
  · have hctr : s.quiet.ctl.settleCtr ≠ 0 := fun h0 => hs ⟨hp, h0⟩
    rw [settleOnCtl_counts hctr]
    rfl
  · exact absurd hp ha
  · rcases nextOnCtl_cases s.quiet with ⟨-, e⟩ | ⟨-, p, -, e⟩ <;> rw [e] <;> rfl
  · rfl

theorem execRsp_out_quiet {r : Rsp} {s t : State} (hr : ¬ answerIssues r s) (h : exec (.rsp r) s = .next t) :
    t.out = OutPins.quiet := by
  rcases execRsp_next_cases h with ⟨hp, rfl⟩ | ⟨-, rfl⟩ | ⟨hp, rfl⟩ | ⟨-, rfl⟩ | ⟨-, rfl⟩
  · rcases detectOnRsp_cases r s.quiet with ⟨-, e⟩ | ⟨-, -, e⟩ | ⟨hcur, hw, e⟩ | ⟨-, -, e⟩ <;> rw [e]
    · rw [targetDetected_eq]
      rfl
    · rcases refDetectedInCheck_cases r s.quiet with ⟨-, e⟩ | ⟨-, e⟩ <;> rw [e] <;> rfl
    · rcases refDetectedInWrite_cases r s.quiet with ⟨⟨hok, hflag⟩, -⟩ | ⟨-, e⟩
      · exact absurd ⟨hok, .inr ⟨hp, hflag, hcur, hw⟩⟩ hr
      · rw [e]
        rfl
    · rfl
  · rcases readOnRsp_cases r s.quiet with ⟨-, e⟩ | ⟨-, e⟩ <;> rw [e] <;> rfl
  · rcases writeOnRsp_cases r s.quiet with ⟨hok, -⟩ | ⟨-, e⟩
    · exact absurd ⟨hok, .inl hp⟩ hr
    · rw [e, attemptDone_eq]
      rfl
  · rw [verifyOnRsp, attemptDone_eq]
    rfl
  · rfl

/-! ### Every event -/

theorem execTick_out {s t : State} (hp : s.ctl.phase ≠ .fatal) (h : exec .tick s = .next t) :
    t.out = { OutPins.quiet with latch := true } := by
  rcases execTick_next h with ⟨hf, -⟩ | ⟨-, -, rfl⟩ | ⟨-, -, rfl⟩
  · exact absurd hf hp
  · rw [lampTick_eq]
    rfl
  · rcases bootTick_cases s.quiet with ⟨-, e⟩ | ⟨-, e⟩ <;> rw [e] <;> rfl

theorem execSample_out {rC rW : Bool} {s t : State} (h : exec (.sample rC rW) s = .next t) :
    t.out = { OutPins.quiet with evtCheck := t.out.evtCheck, evtWrite := t.out.evtWrite } := by
  rcases execSample_next h with ⟨-, rfl⟩ | ⟨-, rfl⟩
  · rfl
  · rw [sampleButtons_out]
    rfl

/-- What the event `i` that led from `s` to `t` emitted, `evt` aside. -/
inductive Emission (i : Instr) (s t : State) : Prop where
  | latch (hi : i = .tick) (hp : s.ctl.phase ≠ .fatal) (out : t.out = { OutPins.quiet with latch := true })
  | store (hi : i = .ctl) (hp : s.ctl.phase = .archive)
      (out : t.out = { OutPins.quiet with archReq := true, archImage := s.ctl.refImage })
  | command {cmd : FaCmd} (hi : issuesCommand i s) (h : Issued cmd t)
  | nothing (htick : i = .tick → s.ctl.phase = .fatal) (hstore : i = .ctl → s.ctl.phase ≠ .archive) (hcmd : ¬ issuesCommand i s)
      (out : t.out = { OutPins.quiet with evtCheck := t.out.evtCheck, evtWrite := t.out.evtWrite })

theorem not_issuesCommand {i : Instr} {s : State} (hc : i ≠ .ctl) (hr : ∀ r, i ≠ .rsp r) : ¬ issuesCommand i s := by
  rintro (⟨rfl, -⟩ | ⟨r, rfl, -⟩)
  · exact hc rfl
  · exact hr r rfl

theorem not_tick_or_store_of_issuesCommand {i : Instr} {s : State} (h : issuesCommand i s) :
    i ≠ .tick ∧ ¬ (i = .ctl ∧ s.ctl.phase = .archive) := by
  rcases h with ⟨rfl, hp, -⟩ | ⟨r, rfl, -⟩
  · exact ⟨Instr.noConfusion, fun ha => absurd (hp.symm.trans ha.2) Phase.noConfusion⟩
  · exact ⟨Instr.noConfusion, fun ha => Instr.noConfusion ha.1⟩

theorem emission_ctl {s t : State} (h : exec .ctl s = .next t) : Emission .ctl s t := by
  by_cases ha : s.ctl.phase = .archive
  · rw [execCtl_archive ha] at h
    cases h
    exact .store rfl ha rfl
  by_cases hs : s.ctl.phase = .settle ∧ s.ctl.settleCtr = 0
  · obtain ⟨cmd, hcmd⟩ := execCtl_issues hs.1 hs.2 h
    exact .command (.inl ⟨rfl, hs⟩) hcmd
  · refine .nothing Instr.noConfusion (fun _ => ha) (by simpa using hs) ?_
    rw [execCtl_out_quiet ha hs h]

theorem emission_rsp {r : Rsp} {s t : State} (h : exec (.rsp r) s = .next t) : Emission (.rsp r) s t := by
  by_cases hr : answerIssues r s
  · obtain ⟨cmd, hcmd⟩ := execRsp_issues hr h
    exact .command (.inr ⟨r, rfl, hr⟩) hcmd
  · refine .nothing Instr.noConfusion Instr.noConfusion ?_ ?_
    · rintro (⟨hi, -⟩ | ⟨r', hi, hr'⟩) <;> cases hi
      exact hr hr'
    · rw [execRsp_out_quiet hr h]

theorem emission_exec {i : Instr} {s t : State} (hi : i.isEvent = true) (h : exec i s = .next t) : Emission i s t := by
  rcases isEvent_cases hi with ⟨dip, resOk, rfl⟩ | rfl | rfl | ⟨rC, rW, rfl⟩ | ⟨r, rfl⟩
  · refine .nothing Instr.noConfusion Instr.noConfusion (not_issuesCommand Instr.noConfusion fun _ => Instr.noConfusion) ?_
    rcases execReset_next h with ⟨-, rfl⟩ | ⟨-, rfl⟩ <;> rfl
  · exact emission_ctl h
  · by_cases hp : s.ctl.phase = .fatal
    · rw [execTick_of_fatal hp] at h
      cases h
      exact .nothing (fun _ => hp) Instr.noConfusion (not_issuesCommand Instr.noConfusion fun _ => Instr.noConfusion) rfl
    · exact .latch rfl hp (execTick_out hp h)
  · exact .nothing Instr.noConfusion Instr.noConfusion (not_issuesCommand Instr.noConfusion fun _ => Instr.noConfusion)
      (execSample_out h)
  · exact emission_rsp h

/-- The command on the pins is the one of the wait phase entered, and WRITE and VERIFY carry `ref_image` (47 R252, 30_encoding R89). -/
theorem Issued.named {cmd : FaCmd} {t : State} (h : Issued cmd t) :
    (t.ctl.phase = .detect ∧ t.out.faCmd = .detect ∧ t.out.faImage = none) ∨
    (t.ctl.phase = .read ∧ t.out.faCmd = .read ∧ t.out.faImage = none) ∨
    (t.ctl.phase = .write ∧ t.out.faCmd = .write ∧ t.out.faImage = t.ctl.refImage) ∨
    (t.ctl.phase = .verify ∧ t.out.faCmd = .verify ∧ t.out.faImage = t.ctl.refImage) := by
  rw [h.out]
  have hphase := h.phase
  cases cmd with
  | noCmd => exact absurd rfl h.isCommand
  | detect => exact .inl ⟨hphase, rfl, rfl⟩
  | read => exact .inr (.inl ⟨hphase, rfl, rfl⟩)
  | write => exact .inr (.inr (.inl ⟨hphase, rfl, rfl⟩))
  | verify => exact .inr (.inr (.inr ⟨hphase, rfl, rfl⟩))

end Sys2Proof.Machine

namespace Sys2Proof

open Machine

/-- Settles O29: an event emits a latch pulse, a store request, a command or nothing, and each has its own occasion. -/
theorem outputEventsOnlyThere : Obligations.OutputEventsOnlyThere := by
  intro i s t hi h
  change _ ∧ _ ∧ (_ ↔ issuesCommand i s) ∧ _
  cases emission_exec hi h with
  | latch htick hp out =>
    subst htick
    have hcmd : ¬ issuesCommand .tick s := not_issuesCommand Instr.noConfusion fun _ => Instr.noConfusion
    simp [out, hp, hcmd, OutPins.quiet]
  | store hctl hp out =>
    subst hctl
    have hcmd : ¬ issuesCommand .ctl s := by simp [issuesCommand, hp]
    simp [out, hp, hcmd, OutPins.quiet]
  | command hcmd hissued =>
    obtain ⟨htick, hstore⟩ := not_tick_or_store_of_issuesCommand hcmd
    refine ⟨?_, ?_, ?_, ?_, fun _ => hissued.named⟩ <;> rw [hissued.out]
    · simp [requestPins, OutPins.quiet, htick]
    · simp [requestPins, OutPins.quiet, hstore]
    · exact ⟨fun _ => hcmd, fun _ => rfl⟩
    · simp [requestPins]
  | nothing htick hstore hcmd out =>
    rw [out]
    refine ⟨?_, ?_, ?_, fun _ => ⟨rfl, rfl⟩, ?_⟩
    · simpa [OutPins.quiet] using htick
    · simpa [OutPins.quiet] using hstore
    · exact iff_of_false Bool.false_ne_true hcmd
    · simp [OutPins.quiet]

/-- Settles O52: the index is read back from its own encoding, and it names one slot, whose record is packed. -/
theorem statResult : Obligations.StatResult := by
  refine ⟨decode_encode_stat, fun s i => ⟨{ s with stIdx := i }, rfl, rfl, fun j hj => ?_⟩⟩
  obtain rfl : j = slotOfIndex i := Fin.ext hj
  rfl

end Sys2Proof
end

section
/-! What the operations do where the rules list no case or name no record (60 R271, 44 R172, R181, 20_memory R68; log entries 12, 13). -/

namespace Sys2Proof.Machine

theorem exec_of_running {i : Instr} {s : State} {f : State → State} (hp : s.ctl.phase ≠ .fatal)
    (h : exec i s = whileRunning s fun u => .next (f u)) : exec i s = .next (f s.quiet) := h.trans (whileRunning_of_ne hp)

/-- With no workflow a DETECT answer for slot 0 has no rule (log entry 13). -/
theorem exec_phDetect_of_no_workflow {s : State} (hcur : s.ctl.cur = 0) (hw : s.ctl.wf = .none) (r : Rsp) :
    exec (.phDetect (.rsp r)) s = .next s.quiet := by
  have hnothing : detectOnRsp r s.quiet = s.quiet := by
    simp [detectOnRsp, isTarget_eq_false_iff.mpr hcur, hw]
  by_cases hp : s.ctl.phase = .fatal
  · exact exec_of_fatal hp rfl fun _ => Instr.noConfusion
  · rw [exec_of_running (f := detectOnRsp r) hp rfl, hnothing]

/-! ### `cur` above 15 (log entry 12) -/

/-- A DETECT answer writes no record and ends the turn. -/
theorem exec_phDetect_beyond {s : State} (hp : s.ctl.phase ≠ .fatal) (hcur : 16 ≤ s.ctl.cur.toNat) (r : Rsp) :
    exec (.phDetect (.rsp r)) s = .next (s.quiet.withCtl (slotDone s.ctl)) := by
  have hdone : detectOnRsp r s.quiet = s.quiet.withCtl (slotDone s.ctl) := by
    rw [detectOnRsp_of_target (s := s.quiet) (show 1 ≤ s.ctl.cur.toNat by omega), targetDetected_eq,
      setCurRecord_beyond (c := s.quiet.ctl) hcur, State.quiet_ctl]
  rw [exec_of_running (f := detectOnRsp r) hp rfl, hdone]

/-- The end of an attempt writes no record, whatever the result, and ends the turn. -/
theorem attemptDone_beyond {s : State} (hcur : 16 ≤ s.ctl.cur.toNat) (k : OpResult) :
    attemptDone k s = s.withCtl (slotDone { s.ctl with act := false }) := by
  rw [attemptDone_eq, setCurRecord_beyond hcur]

theorem exec_phVerify_beyond {s : State} (hp : s.ctl.phase ≠ .fatal) (hcur : 16 ≤ s.ctl.cur.toNat) (r : Rsp) :
    exec (.phVerify (.rsp r)) s = .next (s.quiet.withCtl (slotDone { s.ctl with act := false })) := by
  rw [exec_of_running (f := verifyOnRsp r) hp rfl, verifyOnRsp, attemptDone_beyond (s := s.quiet) hcur, State.quiet_ctl]

theorem exec_phWrite_beyond {s : State} (hp : s.ctl.phase ≠ .fatal) (hcur : 16 ≤ s.ctl.cur.toNat) {r : Rsp} (hr : r.status ≠ .ok) :
    exec (.phWrite (.rsp r)) s = .next (s.quiet.withCtl (slotDone { s.ctl with act := false })) := by
  rw [exec_of_running (f := writeOnRsp r) hp rfl, writeOnRsp, if_neg hr, attemptDone_beyond (s := s.quiet) hcur, State.quiet_ctl]

/-- NEXT from any slot but the last: to `cur + 1`, selected in a CHECK or where the test of its record says so (44 R181). -/
theorem nextOnCtl_of_ne {s : State} (hcur : s.ctl.cur.toNat ≠ 15) :
    nextOnCtl s = s.withCtl { s.ctl with
      cur := curOfNat (s.ctl.cur.toNat + 1)
      phase := if s.ctl.wf = .check ∨ slotMatches s.ctl (s.ctl.cur.toNat + 1) = true then .select else .next } :=
  if_neg (by omega)

end Sys2Proof.Machine

namespace Sys2Proof

open Machine

/-- Settles O7: the operations are an agent's, RESET or STAT; the code of a failed range check is against the invariant; and where `cur`
names no record the write to it is nothing. -/
theorem everyOperationCompletes : Obligations.EveryOperationCompletes := by
  refine ⟨exec_completes, fun s t i hinv hi h => (engineInv_exec hi hinv h).ctl.fatalCode_ne_addressOutOfRange,
    fun s r hcur hw => ?noWorkflow, fun s r hp hcur => ?beyond⟩
  case noWorkflow =>
    have h := exec_phDetect_of_no_workflow hcur hw r
    exact ⟨h, fun hp => (exec_phaseInstr_rsp hp r).symm.trans h⟩
  case beyond =>
    refine ⟨exec_phDetect_beyond hp hcur r, exec_phVerify_beyond hp hcur r,
      fun hr => (exec_phWrite_beyond hp hcur hr).trans (exec_phVerify_beyond hp hcur r).symm, nextOnCtl s.quiet,
      exec_of_running hp rfl, ?_⟩
    have hne : s.quiet.ctl.cur.toNat ≠ 15 := by
      show s.ctl.cur.toNat ≠ 15
      omega
    rw [nextOnCtl_of_ne hne]
    refine ⟨rfl, ?_, fun hlt => curOfNat_toNat (Nat.succ_lt_succ hlt)⟩
    by_cases hsel : s.ctl.wf = .check ∨ slotMatches s.ctl (s.ctl.cur.toNat + 1) = true
    · exact .inl (if_pos hsel)
    · exact .inr ⟨fun hck => hsel (.inl hck), if_neg hsel⟩

end Sys2Proof
end
